-- ==== Sys2Proof/Word.lean ====
section
/-! DEFINITION. The word types of the SRM-64 and the fixed-size tables its blocks hold. A bit vector stands for what
the manual gives bits to (a sample, a link word, a field of a message, a number that wraps); counts and offsets are
natural numbers. -/

namespace Sys2Proof

/-- A 24-bit two's-complement sample (R1). -/
abbrev Sample := BitVec 24

/-- The 24 payload bits of a body word (R19, chapter 12). -/
abbrev Payload := BitVec 24

/-- A link word: all 32 bits of a management slot (R1, R181). -/
abbrev LinkBits := BitVec 32

/-- A slot number 16 × lane + position, 0 to 63, on either side (R3). -/
abbrev Slot := BitVec 6

/-- A source number: 0–63 an input slot, 64 and 65 the Clip Players (00_scope, Source numbers). -/
abbrev Source := BitVec 7

/-- A gain code, 0 to 255 (00_scope, Gain codes). -/
abbrev Gain := BitVec 8

/-- A request tag or a notice tag, 0 to 63 (R19). -/
abbrev Tag := BitVec 6

/-- The code field of a header (R181). -/
abbrev Code := BitVec 6

/-- A fade group number, 0 to 7 (R85). -/
abbrev GroupNo := BitVec 3

/-- A region id, 0 to 7 (R120). -/
abbrev RegionNo := BitVec 3

/-- A watch number, 0 to 15 (R162). -/
abbrev WatchNo := BitVec 4

/-- A player number, 0 or 1 (R152). -/
abbrev PlayerNo := BitVec 1

/-- The 32-bit frame number (R12). -/
abbrev FrameNo := BitVec 32

/-- A table with one row for each value of a `k`-bit number: 64 slots, 8 groups, 16 watches and so on. -/
abbrev Table (k : Nat) (α : Type) := Vector α (2 ^ k)

/-- The table whose row `i` is `f i`. -/
def Table.tab {k : Nat} {α : Type} (f : BitVec k → α) : Table k α :=
  Vector.ofFn fun i => f (BitVec.ofFin i)

/-- The row of number `i`. -/
def Table.row {k : Nat} {α : Type} (t : Table k α) (i : BitVec k) : α :=
  Vector.get t i.toFin

/-- The table with row `i` replaced. -/
def Table.put {k : Nat} {α : Type} (t : Table k α) (i : BitVec k) (a : α) : Table k α :=
  Vector.set t i.toNat a i.isLt

/-- Every `k`-bit number, rising. -/
def Table.numbers (k : Nat) : List (BitVec k) :=
  (List.range (2 ^ k)).map (BitVec.ofNat k)

end Sys2Proof
end

