-- ==== Sys2Proof/Config.lean ====
section
/-! DEFINITION. What the part fixes once and for all (the capacities of 00_scope and R173, the codes of R185 and of
the status table) and the one free value of the model: what a memory word holds that nothing has written since pin
reset. -/

namespace Sys2Proof

/-- R119: after pin reset the content of every word of the sample memory is unknown. `unknownWord n a` is what word
`a` holds after the `n`-th pin reset while nothing has written it. It has no body: nothing can be proved of its value. -/
opaque Config.unknownWord : Nat → Nat → Sample

/-- Words of sample memory (R119). -/
def Config.memoryWords : Nat := 8192

/-- Requests the Command Queue holds (R40). -/
def Config.commandQueueSize : Nat := 4

/-- Places of the Reply Queue (R46). -/
def Config.replyPlaces : Nat := 8

/-- Notices the Notice Queue holds (R51). -/
def Config.noticeQueueSize : Nat := 16

/-- Body words the parser stores (R25). -/
def Config.bodyWords : Nat := 48

/-- Slots the list of a CLIP notice holds (R109). -/
def Config.clipListSize : Nat := 32

/-- Emitted frames one HOLDOVER lasts at most (R10). -/
def Config.holdoverFrames : Nat := 16

/-- IDLE and BREAK words in a row a message may carry (R27). -/
def Config.gapLimit : Nat := 8

/-- The notice mask after pin reset and RESET FULL: every kind but RAMP_DONE (code 4) and CLIP (code 8)
(R55, R183). -/
def Config.defaultMask : BitVec 8 := 0x77

end Sys2Proof
end

