-- ==== Sys2Proof/Syntax.lean ====
section
/-! DEFINITION. The commands of the block: one constructor of `Instr` for each row of spec/opcode_table.json, with the
operands the row's event has. -/

namespace Sys2Proof

/-- A request as the parser hands it to the Command Queue (R28, R40, R184): its tag, whether a reserved bit of its
header was nonzero, and its body words as received. The code is the row's own. -/
structure Req where
  tag : Tag
  hdrReserved : Bool
  body : List Payload
  deriving DecidableEq, Repr

/-- The bits the four input lanes carried in the 64 slot positions of one frame (R1, R3). -/
structure FrameIn where
  lanes : Table 6 LinkBits
  deriving DecidableEq, Repr

/-- A frame whose slots carry the words listed and 0 elsewhere. -/
def FrameIn.ofList (l : List (Slot × LinkBits)) : FrameIn :=
  ⟨Table.tab fun i => ((l.find? fun p => p.1 == i).map (·.2)).getD 0⟩

/-- One thing that one block does at an event of the Frame Timing Unit. The spec leaves the order of many of them
open ("either may be first": R50, R70, R78, R90, R95, R106, R132, R137, R147, R158, R171, R175 and others). -/
inductive Phase where
  /-- the FRAME_STATE posting of a state entry (R14) -/
  | entryNotice
  /-- the parser's action at an entry to HOLDOVER or SEARCH (R29) -/
  | entryParser
  /-- the frame step of a fade group (R87) -/
  | group (g : GroupNo)
  /-- the test of the pending commit and its elapsed count (R70, R73) -/
  | commitTest
  /-- the frame step of a Clip Player (R153) -/
  | player (p : PlayerNo)
  /-- the PLAYER_DONE posting of the player's natural end, which other blocks' postings may precede (R52, R156) -/
  | playerNotice (p : PlayerNo)
  /-- the audio of the output frame that begins here (R110, R111) -/
  | output
  /-- the mixer's computation (R106) -/
  | mixer
  /-- the evaluation of a watch (R163) -/
  | watch (w : WatchNo)
  /-- the frame step of the Capture Unit (R138) -/
  | capture
  /-- the parser's word, and the Executor's taking of a request accepted by it (R22, R41) -/
  | parser
  /-- the effect of a fenced request at the close of its output frame (R17, R37, R179) -/
  | effect
  /-- the FRAME_STATE posting of the SEARCH entry that the effect made (R17) -/
  | effectNotice
  /-- the parser's action at the SEARCH entry that the effect made (R17, R29) -/
  | effectParser
  /-- the Executor's taking of one queued request as the fence lifts; one for each place of the queue, between which the
  arbiter may choose (R41, R44, R50) -/
  | drain
  /-- the word in the management outbound slot of the output frame that begins here (R31) -/
  | word
  deriving DecidableEq, Repr

/-- How the things that fall at one timing event are ordered. `first` names the phases to take first, as far as the
spec lets them, each for one taking; the rest follow in the model's standing order. `keep` is how many of the last phases are left open,
to be taken by later commands; whatever is still open is taken before the next timing event. Any value is admitted:
every order the spec allows is given by some value. -/
structure Sched where
  first : List Phase := []
  keep : Nat := 0
  deriving DecidableEq, Repr

/-- The commands of the block, one for each row of spec/opcode_table.json. -/
inductive Instr where
  /-- RESETN is pulled low and released (R5). -/
  | pinReset
  /-- An active FSYNC edge in SEARCH (R7). -/
  | searchEdge
  /-- An active FSYNC edge in CONFIRM, `spacing` BCLK rising edges after the reference edge (R7). -/
  | confirmEdge (spacing : Nat) (sch : Sched)
  /-- An on-time edge in LOCKED (R8). -/
  | frameArrival (inp : FrameIn) (sch : Sched)
  /-- An edge in LOCKED, `pos` BCLK rising edges after the reference edge and before the expected point (R9). -/
  | earlyEdge (pos : Nat) (sch : Sched)
  /-- The expected point passes in LOCKED with no edge (R9). -/
  | fsyncMissing (inp : FrameIn) (sch : Sched)
  /-- An expected point in HOLDOVER, with an on-time edge or without (R10). -/
  | emittedFrame (edge : Bool) (inp : FrameIn) (sch : Sched)
  /-- The second consecutive on-time edge in HOLDOVER (R10). -/
  | holdoverReturn (inp : FrameIn) (sch : Sched)
  /-- An edge in HOLDOVER away from an expected point, `pos` BCLK rising edges after the reference edge (R10). -/
  | offPositionEdge (pos : Nat) (sch : Sched)
  /-- The expected point after the sixteenth emitted frame, no return completed, with an edge or without (R10). -/
  | holdoverExpired (edge : Bool) (sch : Sched)
  /-- 100 REFCLK periods with no BCLK edge (R11). -/
  | clockAbsent (sch : Sched)
  /-- The first BCLK edge after an absence (R11). -/
  | bclkReturn
  /-- The open frame's word is the gap word that abandons the message (R27). -/
  | abandonGap
  /-- The open frame's word is the trailer that ends the message (R28). -/
  | requestMessage
  /-- The open frame's word is the fourth consecutive BREAK (R33, R34). -/
  | linkResync
  /-- The effect of a fenced MOVE LINK at the open event (R37). -/
  | moveLinkEffect
  /-- The effect of a fenced SET FRAME FORMAT at the open event (R17). -/
  | formatChangeEffect
  /-- The effect of RESET FULL at the open event (R179). -/
  | resetFullEffect
  /-- The open frame's commit test meets its gate (R71). -/
  | commitApply
  /-- The open frame brings the elapsed count to its limit (R73). -/
  | commitTimeout
  /-- The open frame brings the countdown of group `g` to 0 (R83). -/
  | groupExpiry (g : GroupNo)
  /-- The open frame's store fills the region of an ONCE capture (R139). -/
  | captureFull
  /-- The open frame's capture step ends with POST_DONE (R144, R145). -/
  | capturePostDone
  /-- The open frame's step of player `p` presents the last sample of its last pass (R156). -/
  | playerNaturalEnd (p : PlayerNo)
  /-- IDENTIFY, code 1 (R173). -/
  | identify (r : Req)
  /-- READ STATUS, code 2 (R174, R175). -/
  | readStatus (r : Req)
  /-- RESET with scope ROUTING, code 3 (R176, R177). -/
  | resetRouting (tag : Tag) (hdrReserved : Bool)
  /-- RESET with scope FULL, code 3 (R176, R178). -/
  | resetFull (tag : Tag) (hdrReserved : Bool)
  /-- SET NOTICE MASK, code 4 (R55). -/
  | setNoticeMask (r : Req)
  /-- MOVE LINK, code 5 (R36). -/
  | moveLink (r : Req)
  /-- SET FRAME FORMAT, code 6 (R16). -/
  | setFrameFormat (r : Req)
  /-- SET LANES, code 7 (R18). -/
  | setLanes (r : Req)
  /-- STAGE ROUTE, code 8 (R65). -/
  | stageRoute (r : Req)
  /-- STAGE CLEAR, code 9 (R66). -/
  | stageClear (r : Req)
  /-- STAGE FROM ACTIVE, code 10 (R67). -/
  | stageFromActive (r : Req)
  /-- READ ROUTE, code 11 (R68). -/
  | readRoute (r : Req)
  /-- COMMIT, code 12 (R69). -/
  | commit (r : Req)
  /-- CANCEL COMMIT, code 13 (R75). -/
  | cancelCommit (r : Req)
  /-- SET GAIN, code 14 (R77). -/
  | setGain (r : Req)
  /-- SET GROUP, code 15 (R91). -/
  | setGroup (r : Req)
  /-- GROUP MUTE, code 16 (R88). -/
  | groupMute (r : Req)
  /-- READ GROUPS, code 17 (R98). -/
  | readGroups (r : Req)
  /-- READ CLIPS, code 18 (R115). -/
  | readClips (r : Req)
  /-- DEFINE REGION, code 19 (R124). -/
  | defineRegion (r : Req)
  /-- RELEASE REGION, code 20 (R125). -/
  | releaseRegion (r : Req)
  /-- WRITE REGION, code 21 (R126). -/
  | writeRegion (r : Req)
  /-- READ REGION, code 22 (R128). -/
  | readRegion (r : Req)
  /-- READ REGIONS, code 23 (R129). -/
  | readRegions (r : Req)
  /-- START CAPTURE, code 24 (R136). -/
  | startCapture (r : Req)
  /-- STOP CAPTURE, code 25 (R147). -/
  | stopCapture (r : Req)
  /-- READ CAPTURE, code 26 (R149). -/
  | readCapture (r : Req)
  /-- START PLAYER, code 27 (R155). -/
  | startPlayer (r : Req)
  /-- STOP PLAYER, code 28 (R157). -/
  | stopPlayer (r : Req)
  /-- READ PLAYERS, code 29 (R159). -/
  | readPlayers (r : Req)
  /-- SET WATCH, code 30 (R168). -/
  | setWatch (r : Req)
  /-- CLEAR WATCH, code 31 (R169). -/
  | clearWatch (r : Req)
  /-- READ WATCHES, code 32 (R170). -/
  | readWatches (r : Req)
  deriving DecidableEq, Repr

end Sys2Proof
end

