-- ==== Sys2Proof/Decode.lean ====
section
/-! DEFINITION. The link words of chapter 12: how a received word is classed (R181, R182), how the part lays out the
words it sends, and the CRC of a message (R21). The rows of spec/opcode_table.json give no bits, so
`decodeTableWord` reads no command from a table word. -/

namespace Sys2Proof

/-- What the Inbound Parser sees in a word (R19, R182). A header is kept whole: its fields are read by
`Header.tag` and the like. -/
inductive LinkWord where
  | idle
  | brk
  | header (w : LinkBits)
  | body (index : BitVec 6) (payload : Payload)
  | trailer (echo : Tag) (crc : BitVec 16)
  deriving DecidableEq, Repr

/-- R182: a word is classed by bits 31:30 alone; an IDLE-kind word whose other bits are all ones is BREAK. -/
def LinkWord.ofBits (w : LinkBits) : LinkWord :=
  if w.extractLsb' 30 2 = 0b00#2 then
    if w.extractLsb' 0 30 = BitVec.allOnes 30 then .brk else .idle
  else if w.extractLsb' 30 2 = 0b01#2 then .header w
  else if w.extractLsb' 30 2 = 0b10#2 then .body (w.extractLsb' 24 6) (w.extractLsb' 0 24)
  else .trailer (w.extractLsb' 24 6) (w.extractLsb' 8 16)

/-- Origin, bits 29:28 of a header: 00 REQUEST, 01 REPLY, 10 NOTICE (R181). -/
def Header.origin (w : LinkBits) : BitVec 2 := w.extractLsb' 28 2
/-- Tag, bits 27:22 of a header (R181). -/
def Header.tag (w : LinkBits) : Tag := w.extractLsb' 22 6
/-- Code, bits 21:16 of a header (R181). -/
def Header.code (w : LinkBits) : Code := w.extractLsb' 16 6
/-- Length, bits 15:10 of a header (R181). -/
def Header.length (w : LinkBits) : BitVec 6 := w.extractLsb' 10 6
/-- Whether a reserved bit 9:0 of a request header is 1 (R184). -/
def Header.reservedSet (w : LinkBits) : Bool := w.extractLsb' 0 10 != 0#10

/-- The word of a header (R181). -/
def headerWord (origin : BitVec 2) (tag : Tag) (code : Code) (length : BitVec 6) (low : BitVec 10) : LinkBits :=
  0b01#2 ++ origin ++ tag ++ code ++ length ++ low

/-- The word of a body word (R181). -/
def bodyWord (index : BitVec 6) (payload : Payload) : LinkBits := 0b10#2 ++ index ++ payload

/-- The word of a trailer (R181). -/
def trailerWord (echo : Tag) (crc : BitVec 16) (low : BitVec 8) : LinkBits := 0b11#2 ++ echo ++ crc ++ low

/-- The IDLE word the part sends (R182). -/
def idleWord : LinkBits := 0

/-- The BREAK word (R182). -/
def breakWord : LinkBits := 0x3FFFFFFF

/-- One bit of the CRC division by x^16 + x^12 + x^5 + 1 (R21). -/
def crcBit (r : BitVec 16) (b : Bool) : BitVec 16 :=
  if (r.msb ^^ b) = true then (r <<< 1) ^^^ 0x1021#16 else r <<< 1

/-- The bits of a word in the order of the wire, bit 31 first (R21, chapter 12). -/
def wordBits (w : LinkBits) : List Bool := (List.range 32).map fun i => w.getLsbD (31 - i)

/-- The CRC of R21 over a message's header and body words, from a register of all ones. -/
def crcOf (words : List LinkBits) : BitVec 16 :=
  (words.flatMap wordBits).foldl crcBit 0xFFFF#16

/-- The words of a body in message order: the index field holds the body position modulo 64 (R20). -/
def bodyWords (body : List Payload) : List LinkBits :=
  body.mapIdx fun i p => bodyWord (BitVec.ofNat 6 i) p

/-- A whole message as the part sends it: header, body, trailer (R20), with the emission stamp of R182, the low 18 bits
of the frame number at the header's first emission, in header bits 9:0 and trailer bits 7:0. -/
def messageWords (origin : BitVec 2) (tag : Tag) (code : Code) (body : List Payload) (frame : FrameNo) :
    List LinkBits :=
  let front := headerWord origin tag code (BitVec.ofNat 6 body.length) (frame.extractLsb' 0 10) :: bodyWords body
  front ++ [trailerWord tag (crcOf front) (frame.extractLsb' 10 8)]

/-- A whole request message as a controller sends it, with no reserved bit set. -/
def requestWords (tag : Tag) (code : Code) (body : List Payload) : List LinkBits :=
  let front := headerWord 0 tag code (BitVec.ofNat 6 body.length) 0 :: bodyWords body
  front ++ [trailerWord tag (crcOf front) 0]

/-- The command a word of spec/opcode_table.json spells. No row of the table gives bits, so no word spells one. -/
def decodeTableWord (_nbits _w : Nat) : Option Instr := none

end Sys2Proof
end

