-- ==== Sys2Proof/Machine/State.lean ====
section
/-! DEFINITION. Everything the spec gives the SRM-64 to hold, block by block, as plain data; the machine's two kinds of
stop; and the machine right after pin reset. -/

namespace Sys2Proof.Machine

/-! ## Frame Timing Unit (chapter 1) -/

/-- The four states of the Frame Timing Unit (1.2). -/
inductive TimingState where
  | search | confirm | locked | holdover
  deriving DecidableEq, Repr

/-- The causes of a FRAME_STATE notice (R14). -/
inductive Cause where
  | confirmed | returned | fsyncMissing | fsyncEarly | holdoverExpired | clockAbsent | formatChange
  deriving DecidableEq, Repr

/-- FSYNC sense (R2). -/
inductive Sense where
  | activeHigh | activeLow
  deriving DecidableEq, Repr

/-- The frame format (R2): 16 slots or 8, data delay 1 or 0, FSYNC sense. -/
structure Format where
  sixteen : Bool
  delayOne : Bool
  sense : Sense
  deriving DecidableEq, Repr

/-- What the Frame Timing Unit holds (R2, R4, R5, R6, R12, R15). -/
structure Timing where
  state : TimingState
  format : Format
  inLanes : BitVec 4
  outLanes : BitVec 4
  /-- BCLK rising edges counted from the reference edge as of the last timing event; `none`: no reference edge (R6) -/
  sinceRef : Option Nat
  /-- 1 or 2 in CONFIRM, absent elsewhere (R7) -/
  confirmCount : Option Nat
  holdoverCount : Nat
  /-- return run 0 (`false`) or 1 (`true`) (R10) -/
  returnRun : Bool
  clockAbsent : Bool
  frameNo : FrameNo
  lockLosses : BitVec 16
  searchEntries : BitVec 16
  deriving DecidableEq, Repr

/-- The link assignment: management inbound and outbound slot (R22). -/
structure Link where
  inb : Slot
  outb : Slot
  deriving DecidableEq, Repr

/-! ## Inbound Parser, Command Queue and Executor (chapters 2 and 3) -/

/-- The message being received in BODY: its header as received and the body words stored, whose number is the
parser's count (2.3). -/
structure Rx where
  header : LinkBits
  words : List LinkBits
  deriving DecidableEq, Repr

/-- What the Inbound Parser holds (2.3); `rx` is `none` in HUNT. -/
structure Parser where
  rx : Option Rx
  gap : Nat
  breakRun : Nat
  crcErrors : BitVec 16
  abandoned : BitVec 16
  discards : BitVec 16
  stray : BitVec 16
  deriving DecidableEq, Repr

/-- A request in the Command Queue (R40), with the fact that its header's reserved bits were nonzero (R184). -/
structure Queued where
  tag : Tag
  code : Code
  hdrReserved : Bool
  body : List Payload
  deriving DecidableEq, Repr

/-- The effect a fenced request waits to take (R44). -/
inductive Effect where
  | moveLink (inb outb : Slot)
  | setFormat (f : Format)
  | resetFull
  deriving DecidableEq, Repr

/-- The Executor's state (R41). In FENCED: the tag, the effect to come, and whether the trailer of a complete copy of
the reply has been emitted (R44). -/
inductive Executor where
  | idle
  | fenced (tag : Tag) (eff : Effect) (trailerOut : Bool)
  deriving DecidableEq, Repr

/-! ## Outbound Composer (chapters 2 and 3) -/

/-- The statuses of a reply (chapter 12). -/
inductive Status where
  | done | busy | duplicateTag | badTrailer | badLength | badCrc | unknownCode | badField | slotReserved
  | slotInUse | laneDisabled | laneHoldsLink | linkSlotAbsent | stageLocked | commitPending | noCommit
  | commitCancelled | rampTimeout | positionEmpty | regionDefined | regionUndefined | regionOverlap
  | regionBusy | outOfRegion | emptyRegion | captureBusy | notRunning | playerBusy | watchInUse
  deriving DecidableEq, Repr

/-- A RESERVED place: tag and code of an accepted request whose reply is not yet composed (R46). -/
structure Reserved where
  tag : Tag
  code : Code
  deriving DecidableEq, Repr

/-- A READY place: a composed reply (R46); `refusal` tells a parser's refusal, which owns no live request (R38). -/
structure Reply where
  tag : Tag
  status : Status
  body : List Payload
  refusal : Bool
  deriving DecidableEq, Repr

/-- The Reply Queue (R46): the RESERVED places, and the READY places in the ready order (R48). The rest of the eight
places are FREE; which of the eight a reply stands in cannot be observed. -/
structure ReplyQueue where
  reserved : List Reserved
  ready : List Reply
  deriving DecidableEq, Repr

/-- Reasons of an abandonment (R30). -/
inductive Reason where
  | sequence | interrupted | gap | lockLost | linkMoved
  deriving DecidableEq, Repr

/-- The subject of a watch or a capture (R134, R162). -/
inductive Subject where
  | input (n : Slot) | output (n : Slot) | player (p : PlayerNo)
  deriving DecidableEq, Repr

/-- Capture states (R134). -/
inductive CaptureState where
  | idle | armed | filling | post
  deriving DecidableEq, Repr

/-- End reasons of a capture (R134). -/
inductive EndReason where
  | full | postDone | stopped | aborted
  deriving DecidableEq, Repr

/-- What a CAPTURE_STATE notice reports beside its frame number (R148). -/
structure CaptureReport where
  state : CaptureState
  endReason : Option EndReason
  region : RegionNo
  written : Nat
  triggerOffset : Option Nat
  valid : Nat
  oldest : Nat
  holdoverFrames : BitVec 16
  startFrame : Option FrameNo
  deriving DecidableEq, Repr

/-- The values of a notice, by kind (R14, R30, R35, R96, R109, R148, R156, R166). -/
inductive NoticeVal where
  | frameState (frame : FrameNo) (state : TimingState) (cause : Cause) (clockAbsent : Bool)
  | linkResync (frame : FrameNo) (dropped : Nat) (commitDiscarded : Bool)
  | inboundAbandoned (frame : FrameNo) (reason : Reason) (tag : Tag) (stored : Nat)
  | rampDone (g : GroupNo) (frame : FrameNo)
  | watchState (w : WatchNo) (frame : FrameNo) (alerted : Bool) (subject : Subject) (magnitude : Nat)
  | captureState (frame : FrameNo) (report : CaptureReport)
  | playerDone (p : PlayerNo) (frame : FrameNo) (region : RegionNo) (passes : BitVec 16)
  | clip (frame : FrameNo) (slots : List Slot) (overflow : Nat)
  deriving DecidableEq, Repr

/-- A queued notice: its values and its coalescing count (R51). -/
structure Notice where
  val : NoticeVal
  count : BitVec 8
  deriving DecidableEq, Repr

/-- The notice side of the composer (R51, R53, R54, R55). -/
structure NoticeSide where
  queue : List Notice
  mask : BitVec 8
  lost : BitVec 8
  seq : Tag
  deriving DecidableEq, Repr

/-- The message in progress: all its words, how many have been emitted, and whether it is the first READY reply or a
notice (2.4). -/
structure OutMessage where
  words : List LinkBits
  sent : Nat
  isReply : Bool
  deriving DecidableEq, Repr

/-- What the composer's emission holds (2.4, R57); `lastReply` is the last-served mark, `true` for REPLY. -/
structure Composer where
  message : Option OutMessage
  restart : Bool
  lastReply : Bool
  deriving DecidableEq, Repr

/-! ## Route Tables and Fade Groups (chapters 4 and 5) -/

/-- The drive of an entry (R59). -/
inductive Drive where
  | released | driven
  deriving DecidableEq, Repr

/-- The hold policy of an entry (R59): LIVE, REPEAT or ZERO. -/
inductive Hold where
  | live | repeatLast | zero
  deriving DecidableEq, Repr

/-- Polarity (00_scope). -/
inductive Polarity where
  | normal | inverted
  deriving DecidableEq, Repr

/-- A contributor record (R59). -/
structure Contrib where
  source : Source
  target : Gain
  polarity : Polarity
  deriving DecidableEq, Repr

/-- A staged entry (R59). -/
structure Staged where
  drive : Drive
  hold : Hold
  group : GroupNo
  list : List Contrib
  dirty : Bool
  deriving DecidableEq, Repr

/-- A position of an active entry (R61). An EMPTY position has current gain 0 and nothing else; a DRAINING one holds its
pending part, `none` for the value *empty*. -/
inductive Position where
  | empty
  | steady (c : Contrib) (current : Gain)
  | ramping (c : Contrib) (current : Gain)
  | draining (c : Contrib) (current : Gain) (pend : Option Contrib)
  deriving DecidableEq, Repr

/-- An active entry (R61). -/
structure Active where
  drive : Drive
  hold : Hold
  group : GroupNo
  pos : Table 2 Position
  deriving DecidableEq, Repr

/-- The gate of a commit (R69). -/
inductive Gate where
  | none | rampsIdle
  deriving DecidableEq, Repr

/-- The pending commit record (R69). -/
structure Commit where
  tag : Tag
  gate : Gate
  limit : BitVec 16
  elapsed : BitVec 16
  deriving DecidableEq, Repr

/-- A group record (R85). -/
structure Group where
  step : Nat
  interval : Nat
  muted : Bool
  countdown : Nat
  moving : Nat
  deriving DecidableEq, Repr

/-! ## Output Mixer (chapter 6) -/

/-- What is in flight for one slot (R63, R110, R112): the drive and the hold policy of the entry as they stood when the
frame was declared, and the computed result, absent where none was made. -/
structure FlightSlot where
  drive : Drive
  hold : Hold
  result : Option Sample
  deriving DecidableEq, Repr

/-- The results in flight; `held`: they were computed at an emitted frame (R110, R112). -/
structure Flight where
  held : Bool
  slots : Table 6 FlightSlot
  deriving DecidableEq, Repr

/-- What the Output Mixer holds (chapter 6). -/
structure Mixer where
  clips : Table 6 (BitVec 16)
  lastEmitted : Table 6 Sample
  flight : Option Flight
  deriving DecidableEq, Repr

/-! ## Sample memory, regions, capture, players and watches (chapters 7 to 10) -/

/-- The words of the sample memory that have been written since pin reset: address and sample, addresses strictly
rising (R119). A word that is not listed holds an unknown value. -/
abbrev Memory := List (Nat × Sample)

/-- The use of a defined region: READY, PLAYING with its users, CAPTURING (R120). -/
inductive RegionUse where
  | ready | playing (users : Nat) | capturing
  deriving DecidableEq, Repr

/-- The record of a defined region (R120). UNDEFINED is the absence of a record. -/
structure Region where
  base : Nat
  length : Nat
  valid : Nat
  oldest : Nat
  use : RegionUse
  deriving DecidableEq, Repr

/-- Capture modes (R134). -/
inductive CaptureMode where
  | once | ring
  deriving DecidableEq, Repr

/-- Capture triggers (R134). -/
inductive Trigger where
  | immediate | watch (w : WatchNo)
  deriving DecidableEq, Repr

/-- The capture record (R134). -/
structure Capture where
  state : CaptureState
  region : Option RegionNo
  subject : Option Subject
  mode : Option CaptureMode
  trigger : Option Trigger
  postCount : Nat
  writeOffset : Nat
  written : Nat
  postRemaining : Nat
  triggerOffset : Option Nat
  holdoverFrames : BitVec 16
  startFrame : Option FrameNo
  endReason : Option EndReason
  deriving DecidableEq, Repr

/-- A player record (R152). -/
structure Player where
  playing : Bool
  region : Option RegionNo
  position : Nat
  loops : BitVec 8
  passes : BitVec 16
  sample : Sample
  deriving DecidableEq, Repr

/-- Watch states (R162). -/
inductive WatchState where
  | disarmed | clear | pending | alerted
  deriving DecidableEq, Repr

/-- Watch senses (R162). -/
inductive WatchSense where
  | above | below
  deriving DecidableEq, Repr

/-- The parameters SET WATCH gives a watch (R162, R168). -/
structure WatchParams where
  subject : Subject
  sense : WatchSense
  threshold : BitVec 23
  release : BitVec 23
  duration : Nat
  deriving DecidableEq, Repr

/-- A watch record (R162); the parameters are absent until SET WATCH has given them. -/
structure Watch where
  state : WatchState
  params : Option WatchParams
  run : Nat
  deriving DecidableEq, Repr

/-! ## The event in progress -/

/-- What a timing event declares: a frame arrival, an emitted frame, or no frame. -/
inductive FrameKind where
  | arrival | emitted | bare
  deriving DecidableEq, Repr

/-- A state entry of the Frame Timing Unit: new state, cause, and the frame number as it stood (R12, R14). -/
structure Entry where
  state : TimingState
  cause : Cause
  frame : FrameNo
  deriving DecidableEq, Repr

/-- The timing event in progress: what was handed over with it (R3, R22, R105, R111), and the phases not yet taken, in
the order in which they will be. The model's own record: the spec takes every event whole. -/
structure FrameCtx where
  kind : FrameKind
  entry : Option Entry
  /-- the 64 input slot values of the declared frame (R3) -/
  inputs : Table 6 Sample
  /-- all 32 bits of the management inbound slot (R19) -/
  word : LinkBits
  /-- the sample each player gives for this frame (R105, R153) -/
  given : Table 1 Sample
  /-- the natural end of each player at this frame whose PLAYER_DONE is still to be posted: the region and the passes
  completed (R52, R156) -/
  ended : Table 1 (Option (RegionNo × BitVec 16))
  /-- the emitted value of each output slot for this frame (R111) -/
  emitted : Table 6 Sample
  /-- the watches that entered ALERTED at this arrival (R167) -/
  alerts : List WatchNo
  todo : List Phase
  deriving DecidableEq, Repr

/-! ## The machine -/

/-- The state of the SRM-64 and the queue of commands that wait for it. -/
structure State where
  timing : Timing
  link : Link
  parser : Parser
  cmdq : List Queued
  executor : Executor
  replies : ReplyQueue
  notices : NoticeSide
  composer : Composer
  staged : Table 6 Staged
  active : Table 6 Active
  commit : Option Commit
  groups : Table 3 Group
  mixer : Mixer
  memory : Memory
  /-- how many pin resets there have been: selects the unknown contents of the memory (R119) -/
  powerUps : Nat
  regions : Table 3 (Option Region)
  capture : Capture
  players : Table 1 Player
  watches : Table 4 Watch
  /-- the output frame in progress: the 32 bits of each driven slot, `none` where the slot is released (R1, R13) -/
  pins : Table 6 (Option LinkBits)
  /-- the timing event whose phases are not all taken yet -/
  frame : Option FrameCtx
  /-- the commands that wait, first in, first out -/
  pending : List Instr
  deriving DecidableEq, Repr

/-- Why the machine stops with a fault: never. The spec gives every event and every request an outcome, so this type
has no constructor. -/
inductive Fault where
  deriving DecidableEq, Repr

/-- Why a command is refused. -/
inductive Refusal where
  /-- Raised by `exec` alone, for a command that has no meaning yet; safe. No arm raises it in this model. -/
  | notModelled (mnemonic : String)
  deriving DecidableEq, Repr

/-! ## Reset values -/

/-- 16 slots, data delay 1, ACTIVE_HIGH (R2). -/
def Format.reset : Format := ⟨true, true, .activeHigh⟩

/-- R2, R4, R5, R12, R15: SEARCH; all input lanes and output lane 0 enabled; everything else 0 or absent. -/
def Timing.reset : Timing :=
  { state := .search, format := Format.reset, inLanes := 0b1111, outLanes := 0b0001, sinceRef := none
    confirmCount := none, holdoverCount := 0, returnRun := false, clockAbsent := false, frameNo := 0
    lockLosses := 0, searchEntries := 0 }

/-- IN 0.7 and OUT 0.7 (R22). -/
def Link.reset : Link := ⟨7, 7⟩

/-- R23, R47: HUNT, counts and counters 0. -/
def Parser.reset : Parser := ⟨none, 0, 0, 0, 0, 0, 0⟩

/-- R49: all places FREE. -/
def ReplyQueue.reset : ReplyQueue := ⟨[], []⟩

/-- R56: empty queue, default mask, Notices Lost 0, sequence 0. -/
def NoticeSide.reset : NoticeSide := ⟨[], Config.defaultMask, 0, 0⟩

/-- R56, R57: no message in progress, restart mark clear, last-served mark NOTICE. -/
def Composer.reset : Composer := ⟨none, false, false⟩

/-- R59: RELEASED, LIVE, group 0, empty list, not dirty. -/
def Staged.reset : Staged := ⟨.released, .live, 0, [], false⟩

/-- R61: RELEASED, LIVE, group 0, every position EMPTY. -/
def Active.reset : Active := ⟨.released, .live, 0, Table.tab fun _ => .empty⟩

/-- R85: step 2, interval 1, not muted, countdown 0, moving count 0. -/
def Group.reset : Group := ⟨2, 1, false, 0, 0⟩

/-- R117: clip counts and last emitted values 0, nothing in flight. -/
def Mixer.reset : Mixer := ⟨Table.tab fun _ => 0, Table.tab fun _ => 0, none⟩

/-- R134: the cleared record. -/
def Capture.cleared : Capture :=
  { state := .idle, region := none, subject := none, mode := none, trigger := none, postCount := 0
    writeOffset := 0, written := 0, postRemaining := 0, triggerOffset := none, holdoverFrames := 0
    startFrame := none, endReason := none }

/-- R152: IDLE, region absent, everything else 0. -/
def Player.reset : Player := ⟨false, none, 0, 0, 0, 0⟩

/-- R162: DISARMED, parameters absent, run count 0. -/
def Watch.reset : Watch := ⟨.disarmed, none, 0⟩

/-- Every output slot released (R5). -/
def pinsReleased : Table 6 (Option LinkBits) := Table.tab fun _ => none

/-- The machine right after pin reset, with no command waiting. -/
def State.reset : State :=
  { timing := Timing.reset, link := Link.reset, parser := Parser.reset, cmdq := [], executor := .idle
    replies := ReplyQueue.reset, notices := NoticeSide.reset, composer := Composer.reset
    staged := Table.tab fun _ => Staged.reset, active := Table.tab fun _ => Active.reset, commit := none
    groups := Table.tab fun _ => Group.reset, mixer := Mixer.reset, memory := [], powerUps := 0
    regions := Table.tab fun _ => none, capture := Capture.cleared, players := Table.tab fun _ => Player.reset
    watches := Table.tab fun _ => Watch.reset, pins := pinsReleased, frame := none, pending := [] }

end Sys2Proof.Machine
end

