-- ==== Sys2Proof/Machine/Ops.lean ====
section
/-! DEFINITION. The named operations over the state that the commands share: field updates, counting, lanes and slots,
the posting of a notice, the places of the Reply Queue, the sample memory, and the movements of a position. -/

namespace Sys2Proof.Machine

/-! ## Field updates -/

/-- `s` with its timing replaced. -/
def State.setTiming (s : State) (v : Timing) : State := { s with timing := v }

/-- `s` with its link replaced. -/
def State.setLink (s : State) (v : Link) : State := { s with link := v }

/-- `s` with its parser replaced. -/
def State.setParser (s : State) (v : Parser) : State := { s with parser := v }

/-- `s` with its cmdq replaced. -/
def State.setCmdq (s : State) (v : List Queued) : State := { s with cmdq := v }

/-- `s` with its executor replaced. -/
def State.setExecutor (s : State) (v : Executor) : State := { s with executor := v }

/-- `s` with its replies replaced. -/
def State.setReplies (s : State) (v : ReplyQueue) : State := { s with replies := v }

/-- `s` with its notices replaced. -/
def State.setNotices (s : State) (v : NoticeSide) : State := { s with notices := v }

/-- `s` with its composer replaced. -/
def State.setComposer (s : State) (v : Composer) : State := { s with composer := v }

/-- `s` with its staged replaced. -/
def State.setStaged (s : State) (v : Table 6 Staged) : State := { s with staged := v }

/-- `s` with its active replaced. -/
def State.setActive (s : State) (v : Table 6 Active) : State := { s with active := v }

/-- `s` with its commit replaced. -/
def State.setCommit (s : State) (v : Option Commit) : State := { s with commit := v }

/-- `s` with its groups replaced. -/
def State.setGroups (s : State) (v : Table 3 Group) : State := { s with groups := v }

/-- `s` with its mixer replaced. -/
def State.setMixer (s : State) (v : Mixer) : State := { s with mixer := v }

/-- `s` with its memory replaced. -/
def State.setMemory (s : State) (v : Memory) : State := { s with memory := v }

/-- `s` with its powerUps replaced. -/
def State.setPowerUps (s : State) (v : Nat) : State := { s with powerUps := v }

/-- `s` with its regions replaced. -/
def State.setRegions (s : State) (v : Table 3 (Option Region)) : State := { s with regions := v }

/-- `s` with its capture replaced. -/
def State.setCapture (s : State) (v : Capture) : State := { s with capture := v }

/-- `s` with its players replaced. -/
def State.setPlayers (s : State) (v : Table 1 Player) : State := { s with players := v }

/-- `s` with its watches replaced. -/
def State.setWatches (s : State) (v : Table 4 Watch) : State := { s with watches := v }

/-- `s` with its pins replaced. -/
def State.setPins (s : State) (v : Table 6 (Option LinkBits)) : State := { s with pins := v }

/-- `s` with its frame replaced. -/
def State.setFrame (s : State) (v : Option FrameCtx) : State := { s with frame := v }

/-- `s` with its pending replaced. -/
def State.setPending (s : State) (v : List Instr) : State := { s with pending := v }

/-! ## Counting -/

/-- Adds 1, staying at the largest value (00_scope, Counters). -/
def satInc {n : Nat} (x : BitVec n) : BitVec n := if x = BitVec.allOnes n then x else x + 1

/-! ## Frame number and lanes -/

/-- The frame number as it stands (R12). -/
def State.now (s : State) : FrameNo := s.timing.frameNo

/-- The lane of a slot number (R3). -/
def laneOf (i : Slot) : Nat := i.toNat / 16

/-- The position of a slot number in its lane (R3). -/
def positionOf (i : Slot) : Nat := i.toNat % 16

/-- R3: in a 16-slot format every position is present, in an 8-slot format positions 0–7. -/
def Format.present (f : Format) (i : Slot) : Bool := f.sixteen || decide (positionOf i < 8)

/-- R2: the expected spacing in bit clocks, 32 for each slot of a frame. -/
def Format.spacing (f : Format) : Nat := if f.sixteen then 512 else 256

/-- Whether a lane set names the lane of a slot (R4). -/
def laneOn (set : BitVec 4) (i : Slot) : Bool := set.getLsbD (laneOf i)

/-- R13: the output lanes are driven only in LOCKED and HOLDOVER. -/
def TimingState.driving : TimingState → Bool
  | .locked | .holdover => true
  | .search | .confirm => false

/-- R13, but for the entry's drive: the lanes are driven, the slot has bit clocks in the frame and its output lane is
enabled. -/
def State.outEnabled (s : State) (i : Slot) : Bool :=
  s.timing.state.driving && laneOn s.timing.outLanes i && s.timing.format.present i

/-- R3: an input slot's value: its first 24 bits, or zero where its lane is disabled or its position absent. -/
def State.inputValue (s : State) (inp : FrameIn) (i : Slot) : Sample :=
  if laneOn s.timing.inLanes i && s.timing.format.present i then (inp.lanes.row i).extractLsb' 8 24 else 0

/-! ## Notice Queue (R51, R52) -/

/-- The code of a notice's kind (R188). -/
def NoticeVal.kind : NoticeVal → Nat
  | .frameState .. => 1
  | .linkResync .. => 2
  | .inboundAbandoned .. => 3
  | .rampDone .. => 4
  | .watchState .. => 5
  | .captureState .. => 6
  | .playerDone .. => 7
  | .clip .. => 8

/-- The subject of a notice: the group, watch or player, 0 for kinds without one (R51, R188). -/
def NoticeVal.subject : NoticeVal → Nat
  | .rampDone g _ => g.toNat
  | .watchState w .. => w.toNat
  | .playerDone p .. => p.toNat
  | _ => 0

/-- The frame number a notice reports (R188). -/
def NoticeVal.frame : NoticeVal → FrameNo
  | .frameState f .. | .linkResync f .. | .inboundAbandoned f .. | .rampDone _ f | .watchState _ f ..
  | .captureState f _ | .playerDone _ f .. | .clip f .. => f

/-- Two notices of the same kind and subject (R51). -/
def NoticeVal.sameKey (a b : NoticeVal) : Bool := a.kind == b.kind && a.subject == b.subject

/-- R109: a slot posted to a queued CLIP notice joins the end of its list; one that is listed changes nothing; one that
finds 32 listed raises the overflow count, which saturates at 127. -/
def clipJoin (slots : List Slot) (overflow : Nat) (i : Slot) : List Slot × Nat :=
  if i ∈ slots then (slots, overflow)
  else if slots.length < Config.clipListSize then (slots ++ [i], overflow)
  else (slots, min 127 (overflow + 1))

/-- The values of a queued notice after a posting of the same kind and subject: the posting's own, but for CLIP, whose
list grows (R52, R109). -/
def NoticeVal.fold (old new : NoticeVal) : NoticeVal :=
  match old, new with
  | .clip _ slots overflow, .clip f posted _ =>
    let r := posted.foldl (fun acc i => clipJoin acc.1 acc.2 i) (slots, overflow)
    .clip f r.1 r.2
  | _, new => new

/-- R52: the four tests a posting meets, in order. -/
def NoticeSide.post (n : NoticeSide) (v : NoticeVal) : NoticeSide :=
  if n.mask.getLsbD (v.kind - 1) = false then n
  else if n.queue.any (fun q => q.val.sameKey v) then
    { n with queue := n.queue.map fun q => if q.val.sameKey v then ⟨q.val.fold v, satInc q.count⟩ else q }
  else if n.queue.length < Config.noticeQueueSize then { n with queue := n.queue ++ [⟨v, 1⟩] }
  else { n with lost := satInc n.lost }

/-- A block posts a notice (R52). -/
def State.post (s : State) (v : NoticeVal) : State := s.setNotices (s.notices.post v)

/-! ## Reply Queue (R46 to R48) -/

/-- The number of FREE places (R46). -/
def ReplyQueue.free (r : ReplyQueue) : Nat := Config.replyPlaces - (r.reserved.length + r.ready.length)

/-- R38, R46: a tag is live while a place stands for the request that owns it; a refusal's place makes no tag live. -/
def ReplyQueue.live (r : ReplyQueue) (tag : Tag) : Bool :=
  r.reserved.any (fun p => p.tag == tag) || r.ready.any (fun p => !p.refusal && p.tag == tag)

/-- R47: the request's reserved place becomes READY and takes the next position in the ready order (R48). -/
def ReplyQueue.makeReady (r : ReplyQueue) (tag : Tag) (st : Status) (body : List Payload) : ReplyQueue :=
  { reserved := r.reserved.eraseP fun p => p.tag == tag
    ready := r.ready ++ [⟨tag, st, body, false⟩] }

/-- A request's reply is composed in its place (R42, R43, R44). -/
def State.reply (s : State) (tag : Tag) (st : Status) (body : List Payload) : State :=
  s.setReplies (s.replies.makeReady tag st body)

/-! ## Sample memory (R119) -/

/-- The sample listed at an address, if a word has been written there. -/
def Memory.read : Memory → Nat → Option Sample
  | [], _ => none
  | (b, v) :: m, a => if a = b then some v else Memory.read m a

/-- Writes a word, keeping the addresses rising. -/
def Memory.write : Memory → Nat → Sample → Memory
  | [], a, v => [(a, v)]
  | (b, w) :: m, a, v =>
    if a < b then (a, v) :: (b, w) :: m
    else if a = b then (a, v) :: m
    else (b, w) :: Memory.write m a v

/-- The addresses rise strictly from `lo` on and lie in the memory. -/
def Memory.risingFrom : Nat → Memory → Bool
  | _, [] => true
  | lo, (a, _) :: m => decide (lo ≤ a) && decide (a < Config.memoryWords) && Memory.risingFrom (a + 1) m

/-- The canonical form: addresses strictly rising, each an address of the 8192 words (R119). -/
def Memory.wf (m : Memory) : Bool := Memory.risingFrom 0 m

/-- The content of a word: what was written last, or its unknown content (R119). -/
def State.word (s : State) (a : Nat) : Sample := (s.memory.read a).getD (Config.unknownWord s.powerUps a)

/-- The address of a physical offset of a region (R122). Regions lie within the 8192 words (R120), so the modulus changes
no address that a region names. -/
def Region.address (r : Region) (offset : Nat) : Nat := (r.base + offset) % Config.memoryWords

/-- The address of a logical offset of a region (R122). -/
def Region.logical (r : Region) (i : Nat) : Nat := r.address ((r.oldest + i) % r.length)

/-- Writes samples to consecutive physical offsets of a region (R126). -/
def Region.writeAll (r : Region) : Memory → Nat → List Sample → Memory
  | m, _, [] => m
  | m, off, x :: xs => Region.writeAll r (m.write (r.address off) x) (off + 1) xs

/-! ## Positions and gain (chapters 4 and 5) -/

/-- A position that is RAMPING or DRAINING (R82). -/
def Position.moving : Position → Bool
  | .ramping .. | .draining .. => true
  | .empty | .steady .. => false

/-- R62: the effective target of a contributor that does not drain. -/
def effective (muted : Bool) (c : Contrib) : Gain := if muted then 0 else c.target

/-- R62: the state follows from the effective target; in a jump group a position that would be RAMPING takes its
effective target at once. -/
def follow (muted jump : Bool) (c : Contrib) (current : Gain) : Position :=
  if current = effective muted c then .steady c current
  else if jump then .steady c (effective muted c)
  else .ramping c current

/-- R83: one step of a gain toward a value, never past it. -/
def stepToward (step : Nat) (current goal : Gain) : Gain :=
  if current.toNat < goal.toNat then BitVec.ofNat 8 (min (current.toNat + step) goal.toNat)
  else BitVec.ofNat 8 (max (current.toNat - step) goal.toNat)

/-- R84: what a completed drain leaves, entering at gain 0. -/
def drainEnd (muted jump : Bool) : Option Contrib → Position
  | none => .empty
  | some c => follow muted jump c 0

/-- R92, R72: a movement completed at once, as in a jump group. -/
def Position.complete (muted : Bool) : Position → Position
  | .ramping c _ => .steady c (effective muted c)
  | .draining _ _ pend => drainEnd muted true pend
  | p => p

/-- R83: what an expiry makes of one position. -/
def Position.expire (step : Nat) (muted jump : Bool) : Position → Position
  | .ramping c cur =>
    let cur' := stepToward step cur (effective muted c)
    if cur' = effective muted c then .steady c cur' else .ramping c cur'
  | .draining c cur pend =>
    let cur' := stepToward step cur 0
    if cur' = 0 then drainEnd muted jump pend else .draining c cur' pend
  | p => p

/-- R88: what GROUP MUTE makes of one position: DRAINING and EMPTY ones are not touched. -/
def Position.remute (muted jump : Bool) : Position → Position
  | .steady c cur | .ramping c cur => follow muted jump c cur
  | p => p

/-- The contributor of a position and whether it matches a staged record: same source and same polarity (R72). -/
def Contrib.same (a b : Contrib) : Bool := a.source == b.source && a.polarity == b.polarity

/-- R72: the comparison of one position with its staged record, before the jump of a jump group's drains. -/
def Position.compare (muted jump : Bool) (rec : Option Contrib) : Position → Position
  | .empty =>
    match rec with
    | none => .empty
    | some c => follow muted jump c 0
  | .steady old cur | .ramping old cur =>
    match rec with
    | some c => if c.same old then follow muted jump c cur else .draining old cur (some c)
    | none => .draining old cur none
  | .draining old cur _ =>
    match rec with
    | some c => if c.same old then follow muted jump c cur else .draining old cur (some c)
    | none => .draining old cur none

/-- R72 whole: the comparison, and in a jump group the completion of what it left moving. -/
def Position.adopt (muted jump : Bool) (rec : Option Contrib) (p : Position) : Position :=
  let q := p.compare muted jump rec
  if jump then q.complete muted else q

end Sys2Proof.Machine
end

