-- ==== Sys2Proof/Machine/Flags.lean ====
section
/-! DEFINITION. The numbers that chapter 12 gives to states, causes, reasons, statuses and flags (R183, R188 and the
status table), and the conditions the blocks compute: magnitude, watch conditions, the waiting capture. -/

namespace Sys2Proof.Machine

/-- A flag as one bit. -/
def bit (b : Bool) : BitVec 1 := BitVec.ofBool b

/-- R183: 0 SEARCH, 1 CONFIRM, 2 LOCKED, 3 HOLDOVER. -/
def TimingState.code : TimingState → BitVec 2
  | .search => 0 | .confirm => 1 | .locked => 2 | .holdover => 3

/-- R188: the causes of FRAME_STATE. -/
def Cause.code : Cause → BitVec 3
  | .confirmed => 0 | .returned => 1 | .fsyncMissing => 2 | .fsyncEarly => 3 | .holdoverExpired => 4
  | .clockAbsent => 5 | .formatChange => 6

/-- R185: sense 0 ACTIVE_HIGH. -/
def Sense.code : Sense → BitVec 1
  | .activeHigh => 0 | .activeLow => 1

/-- R188: the reasons of INBOUND_ABANDONED. -/
def Reason.code : Reason → BitVec 3
  | .sequence => 0 | .interrupted => 1 | .gap => 2 | .lockLost => 3 | .linkMoved => 4

/-- R183: 0 RELEASED, 1 DRIVEN. -/
def Drive.code : Drive → BitVec 1
  | .released => 0 | .driven => 1

/-- R183: 0 LIVE, 1 REPEAT, 2 ZERO. -/
def Hold.code : Hold → BitVec 2
  | .live => 0 | .repeatLast => 1 | .zero => 2

/-- R183: 0 NORMAL, 1 INVERTED. -/
def Polarity.code : Polarity → BitVec 1
  | .normal => 0 | .inverted => 1

/-- R185: 0 NONE, 1 RAMPS_IDLE. -/
def Gate.code : Gate → BitVec 1
  | .none => 0 | .rampsIdle => 1

/-- R183: 0 IDLE, 1 ARMED, 2 FILLING, 3 POST. -/
def CaptureState.code : CaptureState → BitVec 2
  | .idle => 0 | .armed => 1 | .filling => 2 | .post => 3

/-- R183: 0 absent, 1 FULL, 2 POST_DONE, 3 STOPPED, 4 ABORTED. -/
def endReasonCode : Option EndReason → BitVec 3
  | none => 0 | some .full => 1 | some .postDone => 2 | some .stopped => 3 | some .aborted => 4

/-- R183: 0 DISARMED, 1 CLEAR, 2 PENDING, 3 ALERTED. -/
def WatchState.code : WatchState → BitVec 2
  | .disarmed => 0 | .clear => 1 | .pending => 2 | .alerted => 3

/-- R185: 0 ABOVE, 1 BELOW. -/
def WatchSense.code : WatchSense → BitVec 1
  | .above => 0 | .below => 1

/-- R183: subject kind 0 INPUT, 1 OUTPUT, 2 PLAYER, 3 absent. -/
def subjectKind : Option Subject → BitVec 2
  | none => 3 | some (.input _) => 0 | some (.output _) => 1 | some (.player _) => 2

/-- The subject's number; 0 where the subject is absent (R184). -/
def subjectNumber : Option Subject → BitVec 6
  | none => 0 | some (.input n) => n | some (.output n) => n | some (.player p) => p.setWidth 6

/-- The status table of chapter 12. -/
def Status.code : Status → Code
  | .done => 0 | .busy => 1 | .duplicateTag => 2 | .badTrailer => 3 | .badLength => 4 | .badCrc => 5
  | .unknownCode => 6 | .badField => 7 | .slotReserved => 8 | .slotInUse => 9 | .laneDisabled => 10
  | .laneHoldsLink => 11 | .linkSlotAbsent => 12 | .stageLocked => 13 | .commitPending => 14 | .noCommit => 15
  | .commitCancelled => 16 | .rampTimeout => 17 | .positionEmpty => 18 | .regionDefined => 19
  | .regionUndefined => 20 | .regionOverlap => 21 | .regionBusy => 22 | .outOfRegion => 23 | .emptyRegion => 24
  | .captureBusy => 25 | .notRunning => 26 | .playerBusy => 27 | .watchInUse => 28

/-- R164: the magnitude of a sample, with −8,388,608 taken as 8,388,607. -/
def magnitude (x : Sample) : Nat := min x.toInt.natAbs 8388607

/-- R164: the condition of a sense. -/
def WatchParams.condition (p : WatchParams) (m : Nat) : Bool :=
  match p.sense with
  | .above => decide (p.threshold.toNat ≤ m)
  | .below => decide (m ≤ p.threshold.toNat)

/-- R164: the clear condition of a sense. -/
def WatchParams.clears (p : WatchParams) (m : Nat) : Bool :=
  match p.sense with
  | .above => decide (m < p.release.toNat)
  | .below => decide (p.release.toNat < m)

/-- R169: the capture record waits on watch `w`. -/
def Capture.waitsOn (c : Capture) (w : WatchNo) : Bool :=
  c.trigger == some (.watch w) &&
    (c.state == .armed || (c.state == .filling && c.mode == some .ring))

/-- The users of a region (R120). -/
def RegionUse.users : RegionUse → Nat
  | .playing n => n
  | .ready | .capturing => 0

/-- R183: 0 UNDEFINED, 1 READY, 2 PLAYING, 3 CAPTURING. -/
def regionStateCode : Option Region → BitVec 2
  | none => 0
  | some r => match r.use with
    | .ready => 1 | .playing _ => 2 | .capturing => 3

end Sys2Proof.Machine
end

