-- ==== Sys2Proof/Machine/Operands.lean ====
section
/-! DEFINITION. Chapter 12's body layouts: how the Executor reads the fields of a request body, with the checks common to
all requests (R42, R184), and how the part writes the bodies of replies and notices (R185 to R188). A reader answers
`none` where a common check fails; the request is then refused with BAD_FIELD. Layouts are written as bit strings from
payload bit 23 down, so that Lean itself counts the 24 bits. -/

namespace Sys2Proof.Machine

/-! ## Reading request bodies -/

/-- Field of `n` bits whose lowest bit is `lo`. -/
def fld (w : Payload) (lo n : Nat) : BitVec n := w.extractLsb' lo n

/-- Every payload bit outside the layout's mask is 0 (R184). -/
def within (w mask : Payload) : Bool := (w &&& ~~~mask) == 0

/-- A body of no words (codes 1, 10, 13, 17, 23, 25, 26, 29, 32). -/
def readNone : List Payload → Option Unit
  | [] => some ()
  | _ => none

/-- READ STATUS and READ CLIPS: the clear option. -/
def readClear : List Payload → Option Bool
  | [w] => if within w 0x000001 then some (w.getLsbD 0) else none
  | _ => none

/-- The scope of RESET (R176). -/
inductive Scope where
  | routing | full
  deriving DecidableEq, Repr

/-- RESET: scope 1 ROUTING or 2 FULL. -/
def readScope : List Payload → Option Scope
  | [w] => if w = 1 then some .routing else if w = 2 then some .full else none
  | _ => none

/-- SET NOTICE MASK. -/
def readMask : List Payload → Option (BitVec 8)
  | [w] => if within w 0x0000FF then some (fld w 0 8) else none
  | _ => none

/-- MOVE LINK: the new inbound and outbound slots. -/
def readMoveLink : List Payload → Option (Slot × Slot)
  | [w] => if within w 0x003F3F then some (fld w 8 6, fld w 0 6) else none
  | _ => none

/-- SET FRAME FORMAT: 8 or 16 slots, data delay, sense. -/
def readFormat : List Payload → Option Format
  | [w] =>
    if within w 0x00031F && (fld w 0 5 == 8 || fld w 0 5 == 16) then
      some ⟨fld w 0 5 == 16, w.getLsbD 8, if w.getLsbD 9 then .activeLow else .activeHigh⟩
    else none
  | _ => none

/-- SET LANES: the new input and output enable sets. -/
def readLanes : List Payload → Option (BitVec 4 × BitVec 4)
  | [w] => if within w 0x0000FF then some (fld w 4 4, fld w 0 4) else none
  | _ => none

/-- A record word: source 0–65, target, polarity. -/
def readContrib (w : Payload) : Option Contrib :=
  if within w 0xFFFF00 && decide ((fld w 17 7).toNat ≤ 65) then
    some ⟨fld w 17 7, fld w 9 8, if w.getLsbD 8 then .inverted else .normal⟩
  else none

/-- Hold policy 0–2; 3 is refused (R183). -/
def readHold (b : BitVec 2) : Option Hold :=
  if b = 0 then some .live else if b = 1 then some .repeatLast else if b = 2 then some .zero else none

/-- The fields of STAGE ROUTE. -/
structure StageRouteFields where
  slot : Slot
  drive : Drive
  hold : Hold
  group : GroupNo
  list : List Contrib
  deriving DecidableEq, Repr

/-- STAGE ROUTE: one word and as many record words as its list length says, 0–4. -/
def readStageRoute : List Payload → Option StageRouteFields
  | [] => none
  | w :: ws =>
    if within w 0xFFF007 && decide ((fld w 0 3).toNat ≤ 4) && decide (ws.length = (fld w 0 3).toNat) then
      match readHold (fld w 15 2), ws.mapM readContrib with
      | some h, some l => some ⟨fld w 18 6, if w.getLsbD 17 then .driven else .released, h, fld w 12 3, l⟩
      | _, _ => none
    else none

/-- STAGE CLEAR: one slot, or ALL (`none`) with the slot field 0. -/
def readStageClear : List Payload → Option (Option Slot)
  | [w] =>
    if within w 0xFC0001 then
      if w.getLsbD 0 then (if fld w 18 6 = 0 then some none else none) else some (some (fld w 18 6))
    else none
  | _ => none

/-- READ ROUTE: the slot, and whether the bank is ACTIVE. -/
def readReadRoute : List Payload → Option (Slot × Bool)
  | [w] => if within w 0xFC0008 then some (fld w 18 6, w.getLsbD 3) else none
  | _ => none

/-- COMMIT: the gate and the limit, which is 1–65,535 with RAMPS_IDLE (R69). -/
def readCommit : List Payload → Option (Gate × BitVec 16)
  | [w] =>
    if within w 0x01FFFF then
      if w.getLsbD 16 then (if fld w 0 16 = 0 then none else some (.rampsIdle, fld w 0 16))
      else some (.none, fld w 0 16)
    else none
  | _ => none

/-- SET GAIN: slot, position, code. -/
def readSetGain : List Payload → Option (Slot × BitVec 2 × Gain)
  | [w] => if within w 0xFFFF00 then some (fld w 18 6, fld w 16 2, fld w 8 8) else none
  | _ => none

/-- SET GROUP: group, step 1, 2, 4 or 8, interval 0–64 (R91). -/
def readSetGroup : List Payload → Option (GroupNo × Nat × Nat)
  | [w] =>
    let step := (fld w 17 4).toNat
    let interval := (fld w 10 7).toNat
    if within w 0xFFFC00 && (step == 1 || step == 2 || step == 4 || step == 8) && decide (interval ≤ 64) then
      some (fld w 21 3, step, interval)
    else none
  | _ => none

/-- GROUP MUTE: group and muted value. -/
def readGroupMute : List Payload → Option (GroupNo × Bool)
  | [w] => if within w 0xE00200 then some (fld w 21 3, w.getLsbD 9) else none
  | _ => none

/-- DEFINE REGION: id, base, length 1–8192, within the memory (R124). -/
def readDefineRegion : List Payload → Option (RegionNo × Nat × Nat)
  | [w0, w1] =>
    let base := (fld w0 0 13).toNat
    let length := (fld w1 0 14).toNat
    if within w0 0xE01FFF && within w1 0x003FFF && decide (1 ≤ length) && decide (base + length ≤ 8192) then
      some (fld w0 21 3, base, length)
    else none
  | _ => none

/-- RELEASE REGION: id. -/
def readRegionId : List Payload → Option RegionNo
  | [w] => if within w 0xE00000 then some (fld w 21 3) else none
  | _ => none

/-- WRITE REGION: id, physical offset, and 1–47 samples as the count says. -/
def readWriteRegion : List Payload → Option (RegionNo × Nat × List Sample)
  | [] => none
  | w :: ws =>
    let count := (fld w 0 6).toNat
    if within w 0xFFFF3F && decide (1 ≤ count) && decide (count ≤ 47) && decide (ws.length = count) then
      some (fld w 21 3, (fld w 8 13).toNat, ws)
    else none

/-- READ REGION: id, logical offset, count 1–47. -/
def readReadRegion : List Payload → Option (RegionNo × Nat × Nat)
  | [w] =>
    let count := (fld w 0 6).toNat
    if within w 0xFFFF3F && decide (1 ≤ count) && decide (count ≤ 47) then
      some (fld w 21 3, (fld w 8 13).toNat, count)
    else none
  | _ => none

/-- A subject kind and number: slot 0–63 or player 0–1; kind 3 is refused (R183, R184). -/
def readSubject (kind : BitVec 2) (num : BitVec 6) : Option Subject :=
  if kind = 0 then some (.input num)
  else if kind = 1 then some (.output num)
  else if kind = 2 then (if num.toNat ≤ 1 then some (.player (num.setWidth 1)) else none)
  else none

/-- The fields of START CAPTURE. -/
structure StartCaptureFields where
  region : RegionNo
  subject : Subject
  mode : CaptureMode
  trigger : Trigger
  postCount : Nat
  deriving DecidableEq, Repr

/-- START CAPTURE: a watch field that is nonzero with trigger IMMEDIATE is refused (R184); post count 0–8192. -/
def readStartCapture : List Payload → Option StartCaptureFields
  | [w0, w1] =>
    let post := (fld w1 0 14).toNat
    let mode : Option CaptureMode :=
      if fld w0 8 2 = 0 then some .once else if fld w0 8 2 = 1 then some .ring else none
    let trigger : Option Trigger :=
      if fld w0 6 2 = 0 then (if fld w0 2 4 = 0 then some .immediate else none)
      else if fld w0 6 2 = 1 then some (.watch (fld w0 2 4)) else none
    if within w0 0x1FFFFC && within w1 0x003FFF && decide (post ≤ 8192) then
      match readSubject (fld w0 16 2) (fld w0 10 6), mode, trigger with
      | some sub, some m, some t => some ⟨fld w0 18 3, sub, m, t, post⟩
      | _, _, _ => none
    else none
  | _ => none

/-- START PLAYER: player, region, loops. -/
def readStartPlayer : List Payload → Option (PlayerNo × RegionNo × BitVec 8)
  | [w] => if within w 0x9C00FF then some (fld w 23 1, fld w 18 3, fld w 0 8) else none
  | _ => none

/-- STOP PLAYER: player. -/
def readPlayerNo : List Payload → Option PlayerNo
  | [w] => if within w 0x800000 then some (fld w 23 1) else none
  | _ => none

/-- SET WATCH, its common checks and the check of the release against the threshold (R168, checks 1 and 2, both of which
answer BAD_FIELD). -/
def readSetWatch : List Payload → Option (WatchNo × WatchParams)
  | [w0, w1, w2, w3] =>
    let sense : WatchSense := if w0.getLsbD 8 then .below else .above
    let threshold := fld w1 0 23
    let release := fld w2 0 23
    let duration := (fld w3 0 13).toNat
    let releaseOk := match sense with
      | .above => decide (release.toNat ≤ threshold.toNat)
      | .below => decide (threshold.toNat ≤ release.toNat)
    if within w0 0xF3FD00 && within w1 0x7FFFFF && within w2 0x7FFFFF && within w3 0x001FFF
        && decide (1 ≤ duration) && decide (duration ≤ 4096) && releaseOk then
      match readSubject (fld w0 16 2) (fld w0 10 6) with
      | some sub => some (fld w0 20 4, ⟨sub, sense, threshold, release, duration⟩)
      | none => none
    else none
  | _ => none

/-- CLEAR WATCH: watch. -/
def readWatchNo : List Payload → Option WatchNo
  | [w] => if within w 0xF00000 then some (fld w 20 4) else none
  | _ => none

/-! ## Writing bodies -/

/-- A 32-bit value as a long pair (R182). -/
def longPair (x : BitVec 32) : List Payload := [x.extractLsb' 0 24, 0#16 ++ x.extractLsb' 24 8]

/-- A count in the low bits of a payload. -/
def low16 (x : BitVec 16) : Payload := 0#8 ++ x
/-- A count of up to 14 bits in the low bits of a payload. -/
def low14 (n : Nat) : Payload := 0#10 ++ BitVec.ofNat 14 n
/-- A count of up to 13 bits in the low bits of a payload. -/
def low13 (n : Nat) : Payload := 0#11 ++ BitVec.ofNat 13 n

/-- The record word of a staged contributor (R185). -/
def Contrib.word (c : Contrib) : Payload := c.source ++ c.target ++ c.polarity.code ++ 0#8

/-- The first word of a READ ROUTE reply (R185). -/
def routeHead (slot : Slot) (d : Drive) (h : Hold) (g : GroupNo) (dirty active : Bool) (n : Nat) : Payload :=
  slot ++ d.code ++ h.code ++ g ++ bit dirty ++ 0#7 ++ bit active ++ BitVec.ofNat 3 n

/-- The two words of a position pair from its fields (R187). -/
def pairWords (state : BitVec 2) (c : Contrib) (current : Gain) (pend : BitVec 2) (p : Contrib) : List Payload :=
  [state ++ c.source ++ c.polarity.code ++ c.target ++ pend ++ 0#4,
   current ++ p.target ++ p.source ++ p.polarity.code]

/-- Fields of an absent contributor, sent as 0 (R184). -/
def Contrib.zero : Contrib := ⟨0, 0, .normal⟩

/-- The position pair of a position (R187). -/
def Position.pair : Position → List Payload
  | .empty => pairWords 0 .zero 0 0 .zero
  | .steady c cur => pairWords 1 c cur 0 .zero
  | .ramping c cur => pairWords 2 c cur 0 .zero
  | .draining c cur (some p) => pairWords 3 c cur 1 p
  | .draining c cur none => pairWords 3 c cur 2 .zero

/-- The group record (R187). -/
def Group.words (g : GroupNo) (r : Group) : List Payload :=
  [g ++ BitVec.ofNat 4 r.step ++ BitVec.ofNat 7 r.interval ++ bit r.muted ++ 0#9,
   0#1 ++ BitVec.ofNat 7 r.countdown ++ 0#7 ++ BitVec.ofNat 9 r.moving]

/-- The region record; an UNDEFINED region reports its other fields as 0 (R187). -/
def regionWords (id : RegionNo) (r : Option Region) : List Payload :=
  let get := fun (f : Region → Nat) => (r.map f).getD 0
  [id ++ regionStateCode r ++ BitVec.ofNat 2 (get fun x => x.use.users) ++ 0#3 ++ BitVec.ofNat 14 (get (·.length)),
   low13 (get (·.base)), low14 (get (·.valid)), low13 (get (·.oldest))]

/-- The mode of a capture record: 3 absent (R187). -/
def modeCode : Option CaptureMode → BitVec 2
  | some .once => 0 | some .ring => 1 | none => 3

/-- The trigger of a capture record: 3 absent (R187). -/
def triggerCode : Option Trigger → BitVec 2
  | some .immediate => 0 | some (.watch _) => 1 | none => 3

/-- The watch of a capture record (R187). -/
def triggerWatch : Option Trigger → WatchNo
  | some (.watch w) => w
  | _ => 0

/-- The capture record (R187). -/
def Capture.words (c : Capture) : List Payload :=
  [c.state.code ++ bit c.region.isSome ++ (c.region.getD 0 : RegionNo) ++ subjectKind c.subject
      ++ subjectNumber c.subject ++ modeCode c.mode ++ triggerCode c.trigger ++ triggerWatch c.trigger ++ 0#2,
   endReasonCode c.endReason ++ bit c.triggerOffset.isSome ++ bit c.startFrame.isSome ++ 0#5
      ++ BitVec.ofNat 14 c.postCount,
   low14 c.writeOffset, low14 c.written, low14 c.postRemaining, low13 (c.triggerOffset.getD 0),
   low16 c.holdoverFrames] ++ longPair (c.startFrame.getD 0)

/-- The first word of a player record; `was` is bit 8, *was playing* in a STOP PLAYER reply (R185, R187). -/
def playerHead (p : PlayerNo) (r : Player) (was : Bool) : Payload :=
  p ++ bit r.playing ++ bit r.region.isSome ++ (r.region.getD 0 : RegionNo) ++ 0#9 ++ bit was ++ r.loops

/-- The player record (R187). -/
def Player.words (p : PlayerNo) (r : Player) : List Payload :=
  [playerHead p r false, low16 r.passes, low13 r.position, r.sample]

/-- The reply of STOP PLAYER: words p1 to p3 (R185). -/
def Player.stopWords (p : PlayerNo) (r : Player) (was : Bool) : List Payload :=
  [playerHead p r was, low16 r.passes, low13 r.position]

/-- The watch record, with the previous state in bits 5:4 of x1 as the SET WATCH reply has it (R185, R187). -/
def Watch.words (w : WatchNo) (r : Watch) (previous : BitVec 2) : List Payload :=
  let sub := r.params.map (·.subject)
  [w ++ r.state.code ++ subjectKind sub ++ subjectNumber sub ++ 0#1
      ++ ((r.params.map (·.sense.code)).getD 0 : BitVec 1) ++ 0#2 ++ previous ++ 0#4,
   0#1 ++ ((r.params.map (·.threshold)).getD 0 : BitVec 23),
   0#1 ++ ((r.params.map (·.release)).getD 0 : BitVec 23),
   low13 ((r.params.map (·.duration)).getD 0), low13 r.run]

/-- The three words a READ WATCHES reply has for a watch (R185). -/
def Watch.brief (r : Watch) : List Payload :=
  let sub := r.params.map (·.subject)
  [r.state.code ++ subjectKind sub ++ subjectNumber sub ++ ((r.params.map (·.sense.code)).getD 0 : BitVec 1)
      ++ BitVec.ofNat 13 r.run,
   0#1 ++ ((r.params.map (·.threshold)).getD 0 : BitVec 23),
   0#1 ++ ((r.params.map (·.release)).getD 0 : BitVec 23)]

/-- 16-bit counts packed from payload bit 23 onward, the last payload filled with zeros (R185, READ CLIPS). -/
def pack16 : List (BitVec 16) → List Payload
  | a :: b :: c :: rest => (a ++ b.extractLsb' 8 8) :: (b.extractLsb' 0 8 ++ c) :: pack16 rest
  | [a, b] => [a ++ b.extractLsb' 8 8, b.extractLsb' 0 8 ++ 0#16]
  | [a] => [a ++ 0#8]
  | [] => []

/-- Slot numbers four to a payload, unused places 0 (R188, CLIP). -/
def packSlots : List Slot → List Payload
  | a :: b :: c :: d :: rest => (a ++ b ++ c ++ d) :: packSlots rest
  | [a, b, c] => [a ++ b ++ c ++ 0#6]
  | [a, b] => [a ++ b ++ 0#12]
  | [a] => [a ++ 0#18]
  | [] => []

/-- The body of a COMMIT reply, whatever its status (R185, R186). -/
def commitBody (applied : Nat) (frame : FrameNo) (elapsed : BitVec 16) : List Payload :=
  (0#17 ++ BitVec.ofNat 7 applied : Payload) :: longPair frame ++ [low16 elapsed]

/-- The body of a refusal by the parser: the request code as received (R186). -/
def refusalBody (code : Code) : List Payload := [0#18 ++ code]

/-- The words of a notice body from w3 on (R188). -/
def NoticeVal.words : NoticeVal → List Payload
  | .frameState _ st cause clk => [st.code ++ cause.code ++ bit clk ++ 0#18]
  | .linkResync _ dropped discarded => [bit discarded ++ 0#20 ++ BitVec.ofNat 3 dropped]
  | .inboundAbandoned _ reason tag stored => [reason.code ++ tag ++ 0#9 ++ BitVec.ofNat 6 stored]
  | .rampDone _ _ => []
  | .watchState _ _ alerted sub m =>
    [bit alerted ++ 0#1 ++ subjectKind (some sub) ++ subjectNumber (some sub) ++ 0#14, 0#1 ++ BitVec.ofNat 23 m]
  | .captureState _ r =>
    [r.state.code ++ 0#1 ++ r.region ++ endReasonCode r.endReason ++ bit r.triggerOffset.isSome
        ++ bit r.startFrame.isSome ++ BitVec.ofNat 13 (r.triggerOffset.getD 0),
     low14 r.written, low14 r.valid, low13 r.oldest, low16 r.holdoverFrames] ++ longPair (r.startFrame.getD 0)
  | .playerDone _ _ region passes => [0#3 ++ region ++ 0#2 ++ passes]
  | .clip _ slots overflow => (0#10 ++ BitVec.ofNat 6 slots.length ++ 0#1 ++ BitVec.ofNat 7 overflow) :: packSlots slots

/-- A whole notice body: Notices Lost, coalescing count, subject, the frame number, then the kind's own words (R188). -/
def Notice.body (n : Notice) (lost : BitVec 8) : List Payload :=
  (lost ++ n.count ++ BitVec.ofNat 8 n.val.subject : Payload) :: longPair n.val.frame ++ n.val.words

end Sys2Proof.Machine
end

