-- ==== Sys2Proof/Machine/Request.lean ====
section
/-! DEFINITION. What comes of a request at its taking (R42 to R44). -/

namespace Sys2Proof.Machine

/-- The outcome of a taking: refused with a status and nothing changed; done, with the state after it and the body of the
DONE reply; deferred, its reply composed later (R43); fenced, its effect waiting (R44). -/
inductive Taken where
  | refused (st : Status)
  | done (s : State) (body : List Payload)
  | deferred (s : State)
  | fenced (eff : Effect) (body : List Payload)
  deriving DecidableEq, Repr

/-- R42: the common checks first; a body that fails them is answered with BAD_FIELD. -/
def checked {α : Type} (fields : Option α) (act : α → Taken) : Taken :=
  match fields with
  | none => .refused .badField
  | some x => act x

end Sys2Proof.Machine
end

