-- ==== Sys2Proof/Machine/Groups.lean ====
section
/-! DEFINITION. The Fade Groups (chapter 5): moving counts and countdowns, the frame step and the expiry of a group, and
the requests GROUP MUTE, SET GROUP and READ GROUPS. -/

namespace Sys2Proof.Machine

/-- R62, R93: a group with interval 0 is a jump group. -/
def Group.jump (r : Group) : Bool := r.interval == 0

/-- The movers among one entry's positions (R82). -/
def Active.movers (e : Active) : Nat := e.pos.toList.countP Position.moving

/-- R86: the moving count of a group across all 64 active entries. -/
def movers (g : GroupNo) (t : Table 6 Active) : Nat :=
  (t.toList.map fun e => if e.group = g then e.movers else 0).sum

/-- R70: some position of some active entry is RAMPING or DRAINING. -/
def anyMover (t : Table 6 Active) : Bool := t.toList.any fun e => e.pos.toList.any Position.moving

/-- Replaces every position of an entry. -/
def Active.mapPos (f : Position → Position) (e : Active) : Active :=
  { e with pos := Table.tab fun k => f (e.pos.row k) }

/-- Replaces every position of the entries of a group. -/
def mapGroup (g : GroupNo) (f : Position → Position) (t : Table 6 Active) : Table 6 Active :=
  Table.tab fun i => if (t.row i).group = g then (t.row i).mapPos f else t.row i

/-- R96: a position that was a mover of the group has stopped while its entry stayed in the group. -/
def stoppedIn (g : GroupNo) (old new : Table 6 Active) : Bool :=
  (Table.numbers 6).any fun i =>
    (old.row i).group == g && (new.row i).group == g &&
      (Table.numbers 2).any fun k => ((old.row i).pos.row k).moving && !((new.row i).pos.row k).moving

/-- R87: a countdown set at a frame is first decremented at the next one, so the group's step of the open frame, if it
is still to come, does nothing. -/
def State.skipGroup (s : State) (g : GroupNo) : State :=
  s.setFrame (s.frame.map fun c => { c with todo := c.todo.filter fun p => p != .group g })

/-- Replaces a group record. -/
def State.putGroup (s : State) (g : GroupNo) (r : Group) : State := s.setGroups (s.groups.put g r)

/-- R86: one group's count is brought up to date after an event that found the Active Table as `old`: a rise from 0 sets
the countdown, a fall to 0 clears it and posts RAMP_DONE as R96 provides. -/
def State.syncGroup (old : Table 6 Active) (s : State) (g : GroupNo) : State :=
  let r := s.groups.row g
  let after := movers g s.active
  if r.moving = 0 then
    if after = 0 then s else (s.putGroup g { r with moving := after, countdown := r.interval }).skipGroup g
  else if after = 0 then
    let s' := s.putGroup g { r with moving := 0, countdown := 0 }
    if stoppedIn g old s.active then s'.post (.rampDone g s.now) else s'
  else s.putGroup g { r with moving := after }

/-- R86 for all eight groups, in group order. -/
def State.syncGroups (s : State) (old : Table 6 Active) : State :=
  (Table.numbers 3).foldl (State.syncGroup old) s

/-- R83, R84: an expiry of the group: every mover takes one step. The countdown is set to the interval if the group
still has movers, and stays 0 if it has none (R87); the last mover's stop posts RAMP_DONE (R96, R102). -/
def State.expiry (s : State) (g : GroupNo) : State :=
  let r := s.groups.row g
  let active := mapGroup g (Position.expire r.step r.muted r.jump) s.active
  let after := movers g active
  let s' := (s.setActive active).putGroup g
    { r with moving := after, countdown := if after = 0 then 0 else r.interval }
  if after = 0 && stoppedIn g s.active active then s'.post (.rampDone g s.now) else s'

/-- R87: the group's expiry falls at this frame. -/
def Group.expiring (r : Group) : Bool := decide (0 < r.moving) && decide (r.countdown ≤ 1)

/-- R87: the frame step of a group, at each frame arrival and each emitted frame. -/
def State.groupStep (s : State) (g : GroupNo) : State :=
  let r := s.groups.row g
  if r.moving = 0 then s
  else if r.expiring then s.expiry g
  else s.putGroup g { r with countdown := r.countdown - 1 }

/-- GROUP MUTE (R88). -/
def takeGroupMute (body : List Payload) (s : State) : Taken :=
  checked (readGroupMute body) fun (g, muted) =>
    let r := { s.groups.row g with muted := muted }
    let s' := (s.putGroup g r).setActive (mapGroup g (Position.remute muted r.jump) s.active)
    let t := s'.syncGroups s.active
    .done t (Group.words g (t.groups.row g))

/-- R91, R92: SET GROUP on the state. -/
def State.rateGroup (s : State) (g : GroupNo) (step interval : Nat) : State :=
  let r := { s.groups.row g with step := step, interval := interval }
  if r.moving = 0 then s.putGroup g r
  else if interval = 0 then
    (s.putGroup g { r with countdown := 0, moving := 0 }).setActive
      (mapGroup g (Position.complete r.muted) s.active)
  else (s.putGroup g { r with countdown := interval }).skipGroup g

/-- SET GROUP (R91). -/
def takeSetGroup (body : List Payload) (s : State) : Taken :=
  checked (readSetGroup body) fun (g, step, interval) =>
    let t := s.rateGroup g step interval
    .done t (Group.words g (t.groups.row g))

/-- READ GROUPS (R98). -/
def takeReadGroups (body : List Payload) (s : State) : Taken :=
  checked (readNone body) fun _ =>
    .done s ((Table.numbers 3).flatMap fun g => Group.words g (s.groups.row g))

end Sys2Proof.Machine
end

