-- ==== Sys2Proof/Machine/Routes.lean ====
section
/-! DEFINITION. The Route Tables (chapter 4): staging, reading, the pending commit with its test, application, timeout
and cancellation, and SET GAIN. -/

namespace Sys2Proof.Machine

/-- Replaces a staged entry. -/
def State.putStaged (s : State) (i : Slot) (e : Staged) : State := s.setStaged (s.staged.put i e)

/-- Replaces an active entry. -/
def State.putActive (s : State) (i : Slot) (e : Active) : State := s.setActive (s.active.put i e)

/-- R59: no list names the same source twice. -/
def distinctSources : List Contrib → Bool
  | [] => true
  | c :: cs => !(cs.any fun d => d.source == c.source) && distinctSources cs

/-- STAGE ROUTE (R65). -/
def takeStageRoute (body : List Payload) (s : State) : Taken :=
  checked (readStageRoute body) fun f =>
    if !distinctSources f.list then .refused .badField
    else if s.commit.isSome then .refused .stageLocked
    else if f.list.any fun c => c.source == s.link.inb.setWidth 7 then .refused .slotReserved
    else if f.slot == s.link.outb && f.drive == .driven then .refused .slotReserved
    else .done (s.putStaged f.slot ⟨f.drive, f.hold, f.group, f.list, true⟩) [f.slot ++ 0#18]

/-- STAGE CLEAR (R66). -/
def takeStageClear (body : List Payload) (s : State) : Taken :=
  checked (readStageClear body) fun target =>
    if s.commit.isSome then .refused .stageLocked
    else
      let cleared : Staged := { Staged.reset with dirty := true }
      match target with
      | some i => .done (s.putStaged i cleared) [1]
      | none => .done (s.setStaged (Table.tab fun _ => cleared)) [64]

/-- What a position adds to the configured view (R67). -/
def Position.configured : Position → Option Contrib
  | .empty => none
  | .steady c _ | .ramping c _ => some c
  | .draining _ _ pend => pend

/-- The configured view of an active entry, not dirty (R67). -/
def Active.configured (e : Active) : Staged :=
  ⟨e.drive, e.hold, e.group, e.pos.toList.filterMap Position.configured, false⟩

/-- STAGE FROM ACTIVE (R67). -/
def takeStageFromActive (body : List Payload) (s : State) : Taken :=
  checked (readNone body) fun _ =>
    if s.commit.isSome then .refused .stageLocked
    else .done (s.setStaged (Table.tab fun i => (s.active.row i).configured)) []

/-- READ ROUTE (R68). -/
def takeReadRoute (body : List Payload) (s : State) : Taken :=
  checked (readReadRoute body) fun (i, active) =>
    if active then
      let e := s.active.row i
      .done s (routeHead i e.drive e.hold e.group false true 4 :: e.pos.toList.flatMap Position.pair)
    else
      let e := s.staged.row i
      .done s (routeHead i e.drive e.hold e.group e.dirty false e.list.length :: e.list.map Contrib.word)

/-- COMMIT (R69, R43); the record holds the request's tag. -/
def takeCommit (tag : Tag) (body : List Payload) (s : State) : Taken :=
  checked (readCommit body) fun (gate, limit) =>
    if s.commit.isSome then .refused .commitPending
    else .deferred (s.setCommit (some ⟨tag, gate, limit, 0⟩))

/-- The pending commit ends without an application: the record ends, which unlocks the Staged Table, and its reserved
place becomes READY with the status given, the elapsed count and the frame number as they stand (R73, R75, R80). -/
def State.endCommit (s : State) (c : Commit) (st : Status) : State :=
  (s.setCommit none).reply c.tag st (commitBody 0 s.now c.elapsed)

/-- CANCEL COMMIT (R75). -/
def takeCancelCommit (body : List Payload) (s : State) : Taken :=
  checked (readNone body) fun _ =>
    match s.commit with
    | none => .refused .noCommit
    | some c => .done (s.endCommit c .commitCancelled) []

/-- R71, R72: a dirty staged entry applied to its active entry, under the record of its new group. -/
def Staged.apply (groups : Table 3 Group) (e : Staged) (a : Active) : Active :=
  if e.dirty then
    let r := groups.row e.group
    { drive := e.drive, hold := e.hold, group := e.group
      pos := Table.tab fun k => (a.pos.row k).adopt r.muted r.jump e.list[k.toNat]? }
  else a

/-- R71: the application of the pending commit, one event for all dirty entries. -/
def State.applyCommit (s : State) (c : Commit) : State :=
  let n := s.staged.toList.countP (·.dirty)
  let s1 := (s.setActive (Table.tab fun i => (s.staged.row i).apply s.groups (s.active.row i))).setStaged
    (Table.tab fun i => { s.staged.row i with dirty := false })
  ((s1.setCommit none).syncGroups s.active).reply c.tag .done (commitBody n s.now c.elapsed)

/-- R70: whether the pending commit's gate is met. -/
def Commit.gateMet (c : Commit) (t : Table 6 Active) : Bool :=
  match c.gate with
  | .none => true
  | .rampsIdle => !anyMover t

/-- The elapsed count after one more frame (R73). -/
def Commit.tick (c : Commit) : Commit := { c with elapsed := satInc c.elapsed }

/-- R73: with gate RAMPS_IDLE the elapsed count has reached the limit. -/
def Commit.timedOut (c : Commit) : Bool := c.gate == .rampsIdle && decide (c.limit.toNat ≤ c.elapsed.toNat)

/-- R70, R73: the pending commit at a declared frame; only a frame arrival tests the gate. -/
def State.commitStep (s : State) (arrival : Bool) : State :=
  match s.commit with
  | none => s
  | some c =>
    if arrival && c.gateMet s.active then s.applyCommit c
    else if c.tick.timedOut then s.endCommit c.tick .rampTimeout
    else s.setCommit (some c.tick)

/-- The position SET GAIN leaves, or `none` where it is refused with POSITION_EMPTY (R77). -/
def Position.setGain (muted jump : Bool) (code : Gain) : Position → Option Position
  | .steady c cur | .ramping c cur => some (follow muted jump { c with target := code } cur)
  | .draining c cur (some p) => some (.draining c cur (some { p with target := code }))
  | .draining _ _ none | .empty => none

/-- SET GAIN (R77, R101). -/
def takeSetGain (body : List Payload) (s : State) : Taken :=
  checked (readSetGain body) fun (i, k, code) =>
    let e := s.active.row i
    let r := s.groups.row e.group
    match (e.pos.row k).setGain r.muted r.jump code with
    | none => .refused .positionEmpty
    | some p =>
      .done ((s.putActive i { e with pos := e.pos.put k p }).syncGroups s.active) p.pair

/-- The reset values of both tables, with no commit pending (R59, R61, R79, R80). -/
def State.clearRoutes (s : State) : State :=
  ((s.setStaged (Table.tab fun _ => Staged.reset)).setActive (Table.tab fun _ => Active.reset)).setGroups
    (Table.tab fun _ => Group.reset)

end Sys2Proof.Machine
end

