-- ==== Sys2Proof/Machine/Mixer.lean ====
section
/-! DEFINITION. The Output Mixer (chapter 6): the gain factors, the scaled sum with its saturation and clip counts, the
output frame that carries the results of the frame before, the hold policies, and READ CLIPS. -/

namespace Sys2Proof.Machine

/-- G of codes 0 to 31 (R104). -/
def gains0 : List Nat :=
  [0, 1, 1, 1, 1, 1, 1, 1,
   1, 1, 2, 2, 2, 2, 2, 2,
   2, 2, 2, 3, 3, 3, 3, 3,
   4, 4, 4, 4, 4, 5, 5, 5]

/-- G of codes 32 to 63 (R104). -/
def gains1 : List Nat :=
  [6, 6, 6, 7, 7, 7, 8, 8,
   9, 9, 10, 10, 11, 12, 12, 13,
   14, 15, 16, 17, 18, 19, 20, 21,
   22, 23, 25, 26, 28, 30, 31, 33]

/-- G of codes 64 to 95 (R104). -/
def gains2 : List Nat :=
  [35, 37, 39, 42, 44, 47, 50, 53,
   56, 59, 62, 66, 70, 74, 79, 83,
   88, 93, 99, 105, 111, 118, 125, 132,
   140, 148, 157, 166, 176, 186, 198, 209]

/-- G of codes 96 to 127 (R104). -/
def gains3 : List Nat :=
  [222, 235, 249, 263, 279, 296, 313, 332,
   351, 372, 394, 417, 442, 468, 496, 526,
   557, 590, 625, 662, 701, 742, 786, 833,
   882, 935, 990, 1049, 1111, 1177, 1246, 1320]

/-- G of codes 128 to 159 (R104). -/
def gains4 : List Nat :=
  [1398, 1481, 1569, 1662, 1760, 1865, 1975, 2092,
   2216, 2347, 2487, 2634, 2790, 2955, 3130, 3316,
   3512, 3720, 3941, 4174, 4422, 4684, 4961, 5255,
   5567, 5897, 6246, 6616, 7008, 7423, 7863, 8329]

/-- G of codes 160 to 191 (R104). -/
def gains5 : List Nat :=
  [8823, 9345, 9899, 10486, 11107, 11765, 12462, 13201,
   13983, 14812, 15689, 16619, 17604, 18647, 19751, 20922,
   22162, 23475, 24866, 26339, 27900, 29553, 31304, 33159,
   35124, 37205, 39409, 41745, 44218, 46838, 49614, 52553]

/-- G of codes 192 to 223 (R104). -/
def gains6 : List Nat :=
  [55667, 58966, 62460, 66161, 70081, 74233, 78632, 83291,
   88227, 93454, 98992, 104858, 111071, 117652, 124623, 132008,
   139830, 148115, 156892, 166188, 176035, 186466, 197515, 209218,
   221615, 234747, 248657, 263390, 278997, 295529, 313040, 331589]

/-- G of codes 224 to 255 (R104). -/
def gains7 : List Nat :=
  [351237, 372049, 394094, 417446, 442181, 468382, 496135, 525533,
   556673, 589658, 624597, 661607, 700809, 742335, 786321, 832914,
   882267, 934544, 989920, 1048576, 1110708, 1176522, 1246235, 1320079,
   1398299, 1481153, 1568917, 1661881, 1760354, 1864661, 1975149, 2092184]

/-- G(c) = round(2^20 × 10^((c − 243)/40)) for a code c from 1 to 255, and G(0) = 0 (R104). -/
def gainFactors : List Nat := gains0 ++ gains1 ++ gains2 ++ gains3 ++ gains4 ++ gains5 ++ gains6 ++ gains7

/-- The linear factor of a gain code (R104). -/
def gainFactor (c : Gain) : Nat := gainFactors.getD c.toNat 0

/-- R104: floor(x × G(c) / 2^20), formed exactly; the floor rounds toward minus infinity. -/
def scale (x : Sample) (c : Gain) : Int := (x.toInt * (gainFactor c : Int)) / 1048576

/-- One contributor's contribution at a current gain (R104). -/
def Contrib.contribution (c : Contrib) (x : Sample) (current : Gain) : Int :=
  match c.polarity with
  | .normal => scale x current
  | .inverted => -(scale x current)

/-- A position's contribution: an EMPTY one gives nothing, a DRAINING one its old source (R63, R107). -/
def Position.contribution (source : Source → Sample) : Position → Int
  | .empty => 0
  | .steady c cur | .ramping c cur | .draining c cur _ => c.contribution (source c.source) cur

/-- R107: the exact sum of the four contributions; no partial sum is limited. -/
def Active.sum (source : Source → Sample) (e : Active) : Int :=
  (e.pos.toList.map (Position.contribution source)).sum

/-- R107: the sum limited to the sample range. -/
def saturate (x : Int) : Int := if 8388607 < x then 8388607 else if x < -8388608 then -8388608 else x

/-- R105: the sample each source gives for the frame. -/
def FrameCtx.source (c : FrameCtx) (n : Source) : Sample :=
  if n.toNat < 64 then c.inputs.row (n.setWidth 6)
  else if n = 64 then c.given.row 0
  else if n = 65 then c.given.row 1
  else 0

/-- R106: whether a computation is made for an entry at the declared frame. -/
def Active.computed (kind : FrameKind) (e : Active) : Bool :=
  e.drive == .driven && (kind == .arrival || (kind == .emitted && e.hold == .live))

/-- R108: a slot that clipped and whose count stands at 0 posts CLIP. -/
def State.postClip (sums : Table 6 (Option Int)) (old : Table 6 (BitVec 16)) (s : State) (i : Slot) : State :=
  match sums.row i with
  | none => s
  | some x => if saturate x ≠ x ∧ old.row i = 0 then s.post (.clip s.now [i] 0) else s

/-- R108: a clip count after the frame's computation. -/
def clipAfter (sum : Option Int) (count : BitVec 16) : BitVec 16 :=
  match sum with
  | none => count
  | some x => if saturate x ≠ x then satInc count else count

/-- R104, R107: the exact sum of each entry computed at the frame (R106). -/
def State.sums (s : State) (c : FrameCtx) : Table 6 (Option Int) :=
  Table.tab fun i =>
    let e := s.active.row i
    if e.computed c.kind then some (e.sum c.source) else none

/-- R63, R107, R110: what is in flight after the computation of a frame. -/
def State.flightOf (s : State) (c : FrameCtx) (sums : Table 6 (Option Int)) : Flight :=
  { held := c.kind == .emitted
    slots := Table.tab fun i =>
      ⟨(s.active.row i).drive, (s.active.row i).hold, (sums.row i).map fun x => BitVec.ofInt 24 (saturate x)⟩ }

/-- R106 to R110: the mixer's computation at a frame declared in LOCKED or HOLDOVER; its results are in flight after it. -/
def State.mix (s : State) (c : FrameCtx) : State :=
  if s.timing.state.driving then
    let sums := s.sums c
    let old := s.mixer.clips
    let s1 := s.setMixer
      { s.mixer with
        clips := Table.tab fun i => clipAfter (sums.row i) (old.row i)
        flight := some (s.flightOf c sums) }
    (Table.numbers 6).foldl (State.postClip sums old) s1
  else s

/-- What an audio slot carries in the output frame that begins now, and whether that sets its last emitted value. `none`
where the slot is released (R13, R63, R110, R112 to R114). A REPEAT slot carries its last emitted value as it stands, the
first sentence of R113, also where HOLDOVER is entered right after the two frames of zeros of R13, which do not set it
(R111): R113's second sentence would then give the 0 of those frames (DEDUCED, assumption 27). Where HOLDOVER is entered
before the second of those two frames has begun, nothing is in flight and that frame carries 0 unrecorded whatever the hold
policy (R13, R110, R111), although R112 calls it held and R113 and R114 would have it recorded (DEDUCED,
assumption 30). -/
def State.carried (s : State) (i : Slot) : Option (Sample × Bool) :=
  if s.outEnabled i && i != s.link.outb then
    match s.mixer.flight with
    | none => if (s.active.row i).drive = .driven then some (0, false) else none
    | some f =>
      let e := f.slots.row i
      if e.drive = .driven then
        if f.held || s.timing.state == .holdover then
          match e.hold with
          | .live => some (e.result.getD 0, true)
          | .repeatLast => some (s.mixer.lastEmitted.row i, true)
          | .zero => some (0, true)
        else some (e.result.getD 0, true)
      else none
  else none

/-- R111: a slot's last emitted value after an output frame has begun. -/
def lastAfter (carried : Option (Sample × Bool)) (last : Sample) : Sample :=
  match carried with
  | some (v, true) => v
  | _ => last

/-- R110, R111, R112: an output frame begins. The audio slots take their values; the management outbound slot's word is
placed by the composer, before or after. The emitted values are handed over, 0 for a released slot. -/
def State.beginOutput (s : State) : State :=
  let carried : Table 6 (Option (Sample × Bool)) := Table.tab s.carried
  let s1 := s.setMixer { s.mixer with
    lastEmitted := Table.tab fun i => lastAfter (carried.row i) (s.mixer.lastEmitted.row i) }
  let s2 := s1.setPins (Table.tab fun i =>
    if i = s.link.outb then s.pins.row i else (carried.row i).map fun p => p.1 ++ 0#8)
  s2.setFrame (s.frame.map fun c =>
    { c with emitted := Table.tab fun i => ((carried.row i).map (·.1)).getD 0 })

/-- R13, R110: the output lanes are released at once and the results in flight discarded, at an entry to SEARCH or
CONFIRM. -/
def State.releaseLanes (s : State) : State := (s.setPins pinsReleased).setMixer { s.mixer with flight := none }

/-- R117: clip counts and last emitted values become 0; the result in flight is kept. -/
def State.clearMixer (s : State) : State := s.setMixer { Mixer.reset with flight := s.mixer.flight }

/-- R115: the list of a queued CLIP notice is emptied and its overflow count becomes 0. -/
def NoticeVal.emptyClip : NoticeVal → NoticeVal
  | .clip f _ _ => .clip f [] 0
  | v => v

/-- R115: the clear option of READ CLIPS. -/
def State.clearClips (s : State) : State :=
  (s.setMixer { s.mixer with clips := Table.tab fun _ => 0 }).setNotices
    { s.notices with queue := s.notices.queue.map fun n => { n with val := n.val.emptyClip } }

/-- READ CLIPS (R115). -/
def takeReadClips (body : List Payload) (s : State) : Taken :=
  checked (readClear body) fun clear =>
    let counts := s.mixer.clips.toList
    let above := counts.countP fun x => x != 0
    .done (if clear then s.clearClips else s) ((0#17 ++ BitVec.ofNat 7 above : Payload) :: pack16 counts)

end Sys2Proof.Machine
end

