-- ==== Sys2Proof/Machine/Regions.lean ====
section
/-! DEFINITION. The Sample Memory and the Region Table (chapter 7): the region requests, and the return of a region by
the capture and by a player. -/

namespace Sys2Proof.Machine

/-- Replaces a region record. -/
def State.putRegion (s : State) (id : RegionNo) (r : Option Region) : State := s.setRegions (s.regions.put id r)

/-- R120: two extents overlap when at least one address lies in both. -/
def Region.overlaps (base length : Nat) (r : Region) : Bool :=
  decide (base < r.base + r.length) && decide (r.base < base + length)

/-- DEFINE REGION (R124). -/
def takeDefineRegion (body : List Payload) (s : State) : Taken :=
  checked (readDefineRegion body) fun (id, base, length) =>
    if (s.regions.row id).isSome then .refused .regionDefined
    else if s.regions.toList.any (fun r => r.any (Region.overlaps base length)) then .refused .regionOverlap
    else
      let r : Region := ⟨base, length, 0, 0, .ready⟩
      .done (s.putRegion id (some r)) (regionWords id (some r))

/-- RELEASE REGION (R125). -/
def takeReleaseRegion (body : List Payload) (s : State) : Taken :=
  checked (readRegionId body) fun id =>
    match s.regions.row id with
    | none => .refused .regionUndefined
    | some r => if r.use = .ready then .done (s.putRegion id none) [id ++ 0#21] else .refused .regionBusy

/-- WRITE REGION (R126, R127). -/
def takeWriteRegion (body : List Payload) (s : State) : Taken :=
  checked (readWriteRegion body) fun (id, offset, samples) =>
    match s.regions.row id with
    | none => .refused .regionUndefined
    | some r =>
      if r.use ≠ .ready then .refused .regionBusy
      else if r.length < offset + samples.length then .refused .outOfRegion
      else
        let r' := { r with valid := max r.valid (offset + samples.length), oldest := 0 }
        .done ((s.setMemory (r.writeAll s.memory offset samples)).putRegion id (some r'))
          [id ++ 0#7 ++ BitVec.ofNat 14 r'.valid, low13 0]

/-- READ REGION (R128). -/
def takeReadRegion (body : List Payload) (s : State) : Taken :=
  checked (readReadRegion body) fun (id, offset, count) =>
    match s.regions.row id with
    | none => .refused .regionUndefined
    | some r =>
      if r.use = .capturing then .refused .regionBusy
      else if r.valid < offset + count then .refused .outOfRegion
      else .done s (body ++ (List.range count).map fun i => s.word (r.logical (offset + i)))

/-- READ REGIONS (R129). -/
def takeReadRegions (body : List Payload) (s : State) : Taken :=
  checked (readNone body) fun _ =>
    .done s ((Table.numbers 3).flatMap fun id => regionWords id (s.regions.row id))

/-- R131: one player's end lowers the users of its region; at 0 the region becomes READY. -/
def Region.release (r : Region) : Region :=
  match r.use with
  | .playing n => { r with use := if n ≤ 1 then .ready else .playing (n - 1) }
  | .ready | .capturing => r

/-- R131: a claim by START PLAYER raises the users by 1. -/
def Region.claim (r : Region) : Region := { r with use := .playing (r.use.users + 1) }

/-- R131: a player returns its region. -/
def State.returnRegion (s : State) (id : Option RegionNo) : State :=
  match id with
  | none => s
  | some id => s.putRegion id ((s.regions.row id).map Region.release)

end Sys2Proof.Machine
end

