-- ==== Sys2Proof/Machine/Capture.lean ====
section
/-! DEFINITION. The Capture Unit (chapter 8): the frame step with its triggers, stores and stops, and the requests START
CAPTURE, STOP CAPTURE and READ CAPTURE. -/

namespace Sys2Proof.Machine

/-- The value a subject gives for the frame (R138, R163). -/
def FrameCtx.value (c : FrameCtx) : Subject → Sample
  | .input n => c.inputs.row n
  | .output n => c.emitted.row n
  | .player p => c.given.row p

/-- The record of the region the capture fills. -/
def State.captureRegion (s : State) : Option Region :=
  match s.capture.region with
  | none => none
  | some id => s.regions.row id

/-- R136, R168: a subject that is a management slot of its own side is refused. -/
def Link.reserves (l : Link) : Subject → Bool
  | .input n => n == l.inb
  | .output n => n == l.outb
  | .player _ => false

/-- What a CAPTURE_STATE notice reports of a capture record (R148); valid length and oldest offset are those the stop
gave the region, 0 otherwise. -/
def Capture.report (k : Capture) (valid oldest : Nat) : CaptureReport :=
  { state := k.state, endReason := k.endReason, region := k.region.getD 0, written := k.written
    triggerOffset := k.triggerOffset, valid := valid, oldest := oldest
    holdoverFrames := k.holdoverFrames, startFrame := k.startFrame }

/-- R146: the oldest offset a stop gives the region. -/
def Capture.oldestAtStop (k : Capture) (length : Nat) : Nat :=
  if k.mode = some .ring ∧ k.written = length then k.writeOffset else 0

/-- R146, R130: a stop: the record becomes IDLE with its reason, the region READY with what was written, and CAPTURE_STATE
is posted. -/
def State.stopCapture (s : State) (reason : EndReason) : State :=
  let k := { s.capture with state := .idle, endReason := some reason }
  let s1 := s.setCapture k
  match s.capture.region, s.captureRegion with
  | some id, some r =>
    let oldest := k.oldestAtStop r.length
    (s1.putRegion id (some { r with use := .ready, valid := k.written, oldest := oldest })).post
      (.captureState s.now (k.report k.written oldest))
  | _, _ => s1.post (.captureState s.now (k.report k.written 0))

/-- R139, R140, R141: one store: the sample of the subject at the write offset, and the counts. -/
def State.store (s : State) (c : FrameCtx) (r : Region) (sub : Subject) : State :=
  let k := s.capture
  let next := k.writeOffset + 1
  (s.setMemory (s.memory.write (r.address k.writeOffset) (c.value sub))).setCapture
    { k with
      writeOffset := if k.mode = some .ring ∧ next = r.length then 0 else next
      written := min r.length (k.written + 1)
      startFrame := if k.written = 0 then some s.now else k.startFrame
      holdoverFrames := if c.kind = .emitted then satInc k.holdoverFrames else k.holdoverFrames }

/-- Posts CAPTURE_STATE for an entry to FILLING or POST (R148), with the record as it stands. R148 does not say whether the
written count and the start frame it reports are those before or after the trigger frame's own store; that they are those
after it is DEDUCED from R144 (assumption 25). -/
def State.postCapture (s : State) : State := s.post (.captureState s.now (s.capture.report 0 0))

/-- R139: a store in FILLING; an ONCE capture whose write offset reaches the length stops FULL. -/
def State.storeFilling (s : State) (c : FrameCtx) (r : Region) (sub : Subject) : State :=
  let s1 := s.store c r sub
  if s1.capture.mode = some .once ∧ s1.capture.writeOffset = r.length then s1.stopCapture .full else s1

/-- R145: a store in POST, which lowers post remaining and stops at 0. -/
def State.storePost (s : State) (c : FrameCtx) (r : Region) (sub : Subject) : State :=
  let s1 := s.store c r sub
  let s2 := s1.setCapture { s1.capture with postRemaining := s1.capture.postRemaining - 1 }
  if s2.capture.postRemaining = 0 then s2.stopCapture .postDone else s2

/-- R142: the frame hands the capture a trigger it waits for: its watch has entered ALERTED at this very arrival. That holds
also where the START CAPTURE was taken after that entry and before the capture's frame step, as R137 and R171 have it,
though R142 gives no trigger of a watch that is ALERTED already when START CAPTURE is taken (DEDUCED, assumption 33). -/
def Capture.triggered (k : Capture) (c : FrameCtx) : Bool :=
  match k.trigger with
  | some (.watch w) => c.kind == .arrival && c.alerts.contains w
  | _ => false

/-- R138, R142 to R145: the frame step of the capture. An entry to FILLING or POST posts its notice after the trigger frame's
own store, so the notice counts that store (DEDUCED, assumption 25). -/
def State.captureStep (s : State) (c : FrameCtx) : State :=
  let k := s.capture
  match s.captureRegion, k.subject with
  | some r, some sub =>
    match k.state with
    | .idle => s
    | .armed =>
      if k.triggered c then
        let s1 := (s.setCapture { k with state := .filling, triggerOffset := some k.writeOffset }).storeFilling c r sub
        if s1.capture.state = .filling then s1.postCapture else s1
      else s
    | .filling =>
      if k.mode = some .ring ∧ k.triggered c = true then
        let k1 := { k with triggerOffset := some k.writeOffset }
        if k.postCount = 0 then (s.setCapture k1).stopCapture .postDone
        else
          let s1 := (s.setCapture { k1 with state := .post, postRemaining := k.postCount }).storePost c r sub
          if s1.capture.state = .post then s1.postCapture else s1
      else s.storeFilling c r sub
    | .post => s.storePost c r sub
  | _, _ => s

/-- R136: the record a START CAPTURE that passes leaves. -/
def StartCaptureFields.record (f : StartCaptureFields) : Capture :=
  { Capture.cleared with
    state := match f.mode, f.trigger with
      | .once, .watch _ => .armed
      | _, _ => .filling
    region := some f.region, subject := some f.subject, mode := some f.mode, trigger := some f.trigger
    postCount := f.postCount }

/-- START CAPTURE (R136). -/
def takeStartCapture (body : List Payload) (s : State) : Taken :=
  checked (readStartCapture body) fun f =>
    if s.capture.state ≠ .idle then .refused .captureBusy
    else
      match s.regions.row f.region with
      | none => .refused .regionBusy
      | some r =>
        if r.use ≠ .ready then .refused .regionBusy
        else if r.length < f.postCount then .refused .badField
        else if s.link.reserves f.subject then .refused .slotReserved
        else
          .done ((s.putRegion f.region (some { r with use := .capturing, valid := 0, oldest := 0 })).setCapture f.record)
            f.record.words

/-- The reply of STOP CAPTURE (R147, R185). -/
def stopCaptureWords (s : State) : List Payload :=
  let k := s.capture
  let r := s.captureRegion
  [0#3 ++ (k.region.getD 0 : RegionNo) ++ endReasonCode k.endReason ++ bit k.triggerOffset.isSome ++ 0#1
      ++ BitVec.ofNat 13 (k.triggerOffset.getD 0),
   low14 k.written, low14 ((r.map (·.valid)).getD 0), low13 ((r.map (·.oldest)).getD 0)]

/-- STOP CAPTURE (R147). -/
def takeStopCapture (body : List Payload) (s : State) : Taken :=
  checked (readNone body) fun _ =>
    if s.capture.state = .idle then .refused .notRunning
    else
      let t := s.stopCapture .stopped
      .done t (stopCaptureWords t)

/-- READ CAPTURE (R149). -/
def takeReadCapture (body : List Payload) (s : State) : Taken :=
  checked (readNone body) fun _ => .done s s.capture.words

end Sys2Proof.Machine
end

