-- ==== Sys2Proof/Machine/Players.lean ====
section
/-! DEFINITION. The Clip Players (chapter 9): the frame step with its passes and natural end, and the requests START
PLAYER, STOP PLAYER and READ PLAYERS. -/

namespace Sys2Proof.Machine

/-- Replaces a player record. -/
def State.putPlayer (s : State) (p : PlayerNo) (r : Player) : State := s.setPlayers (s.players.put p r)

/-- The record of the region a player plays. -/
def State.playerRegion (s : State) (p : PlayerNo) : Option Region :=
  match (s.players.row p).region with
  | none => none
  | some id => s.regions.row id

/-- R154, R156: this frame step presents the last sample of the last pass. -/
def Player.ends (r : Player) (valid : Nat) : Bool :=
  r.playing && decide (valid ≤ r.position + 1) && r.loops == 1

/-- R154: the record after presenting sample `x`, short of a natural end. -/
def Player.advance (r : Player) (valid : Nat) (x : Sample) : Player :=
  if r.position + 1 < valid then { r with position := r.position + 1, sample := x }
  else
    { r with
      position := 0, sample := x, passes := satInc r.passes
      loops := if r.loops = 0 then 0 else r.loops - 1 }

/-- Hands over the sample a player gives for the frame (R105, R153). -/
def State.give (s : State) (p : PlayerNo) (x : Sample) : State :=
  s.setFrame (s.frame.map fun c => { c with given := c.given.put p x })

/-- Records what PLAYER_DONE will report of player `p`, or that it has been posted. -/
def State.noteEnd (s : State) (p : PlayerNo) (v : Option (RegionNo × BitVec 16)) : State :=
  s.setFrame (s.frame.map fun c => { c with ended := c.ended.put p v })

/-- R156: a natural end, after the last sample has been given. Its PLAYER_DONE is handed to the Notice Queue at this frame,
before or after the postings of other blocks (R52), but before any request taken after it (R158). -/
def State.naturalEnd (s : State) (p : PlayerNo) : State :=
  let r := s.players.row p
  let passes := satInc r.passes
  ((s.putPlayer p { r with playing := false, position := 0, loops := 0, passes := passes, sample := 0 }).returnRegion
    r.region).noteEnd p (some (r.region.getD 0, passes))

/-- R156: the PLAYER_DONE of a natural end that was recorded is posted. -/
def State.postEnd (s : State) (c : FrameCtx) (p : PlayerNo) : State :=
  match c.ended.row p with
  | none => s
  | some (id, passes) => (s.noteEnd p none).post (.playerDone p s.now id passes)

/-- R158: a natural end is whole, its PLAYER_DONE posted, before the Executor takes a request that finds the player IDLE.
What of the open frame's natural ends is still to be posted is posted now, player 0 first (assumption 29). -/
def State.postEnds (s : State) : State :=
  match s.frame with
  | none => s
  | some c => (Table.numbers 1).foldl (fun t p => t.postEnd c p) s

/-- R153 to R156: the frame step of a player. -/
def State.playerStep (s : State) (p : PlayerNo) : State :=
  let r := s.players.row p
  if r.playing then
    match s.playerRegion p with
    | none => s
    | some reg =>
      let x := s.word (reg.logical r.position)
      let s1 := s.give p x
      if r.ends reg.valid then s1.naturalEnd p else s1.putPlayer p (r.advance reg.valid x)
  else (s.give p 0).putPlayer p { r with sample := 0 }

/-- START PLAYER (R155). -/
def takeStartPlayer (body : List Payload) (s : State) : Taken :=
  checked (readStartPlayer body) fun (p, id, loops) =>
    if (s.players.row p).playing then .refused .playerBusy
    else
      match s.regions.row id with
      | none => .refused .regionBusy
      | some r =>
        if r.use = .capturing then .refused .regionBusy
        else if r.valid = 0 then .refused .emptyRegion
        else
          let rec' : Player :=
            { playing := true, region := some id, position := 0, loops := loops, passes := 0
              sample := (s.players.row p).sample }
          .done ((s.putRegion id (some r.claim)).putPlayer p rec') (rec'.words p ++ [low14 r.valid])

/-- R157: STOP PLAYER on the state. -/
def State.endPlayer (s : State) (p : PlayerNo) : State :=
  let r := s.players.row p
  if r.playing then (s.putPlayer p { r with playing := false, sample := 0 }).returnRegion r.region else s

/-- STOP PLAYER (R157). -/
def takeStopPlayer (body : List Payload) (s : State) : Taken :=
  checked (readPlayerNo body) fun p =>
    let t := s.endPlayer p
    .done t ((t.players.row p).stopWords p (s.players.row p).playing)

/-- READ PLAYERS (R159). -/
def takeReadPlayers (body : List Payload) (s : State) : Taken :=
  checked (readNone body) fun _ => .done s ((s.players.row 0).words 0 ++ (s.players.row 1).words 1)

end Sys2Proof.Machine
end

