-- ==== Sys2Proof/Machine/Watches.lean ====
section
/-! DEFINITION. The Level Watches (chapter 10): the evaluation of a watch, and the requests SET WATCH, CLEAR WATCH and
READ WATCHES. -/

namespace Sys2Proof.Machine

/-- Replaces a watch record. -/
def State.putWatch (s : State) (w : WatchNo) (r : Watch) : State := s.setWatches (s.watches.put w r)

/-- R167: the watch hands the Capture Unit its trigger for this arrival. -/
def State.alert (s : State) (w : WatchNo) : State :=
  s.setFrame (s.frame.map fun c => { c with alerts := w :: c.alerts })

/-- R165: one evaluation of a watch record against a magnitude. -/
def Watch.evaluate (r : Watch) (p : WatchParams) (m : Nat) : Watch :=
  match r.state with
  | .disarmed => r
  | .clear | .pending =>
    if p.condition m then
      let run := if r.state = .clear then 1 else r.run + 1
      if p.duration ≤ run then { r with state := .alerted, run := p.duration }
      else { r with state := .pending, run := run }
    else { r with state := .clear, run := 0 }
  | .alerted => if p.clears m then { r with state := .clear, run := 0 } else r

/-- R163, R165 to R167: the evaluation of watch `w` at a frame arrival. -/
def State.watchStep (s : State) (c : FrameCtx) (w : WatchNo) : State :=
  let r := s.watches.row w
  match r.params with
  | none => s
  | some p =>
    let m := magnitude (c.value p.subject)
    let r' := r.evaluate p m
    let s1 := s.putWatch w r'
    if r.state ≠ .alerted ∧ r'.state = .alerted then
      (s1.post (.watchState w s.now true p.subject m)).alert w
    else if r.state = .alerted ∧ r'.state = .clear then s1.post (.watchState w s.now false p.subject m)
    else s1

/-- SET WATCH (R168). -/
def takeSetWatch (body : List Payload) (s : State) : Taken :=
  checked (readSetWatch body) fun (w, p) =>
    if s.link.reserves p.subject then .refused .slotReserved
    else
      let r : Watch := ⟨.clear, some p, 0⟩
      .done (s.putWatch w r) (r.words w (s.watches.row w).state.code)

/-- CLEAR WATCH (R169). -/
def takeClearWatch (body : List Payload) (s : State) : Taken :=
  checked (readWatchNo body) fun w =>
    if s.capture.waitsOn w then .refused .watchInUse
    else
      let r := s.watches.row w
      .done (s.putWatch w { r with state := .disarmed, run := 0 }) [w ++ 0#14 ++ r.state.code ++ 0#4]

/-- READ WATCHES (R170). -/
def takeReadWatches (body : List Payload) (s : State) : Taken :=
  checked (readNone body) fun _ => .done s ((Table.numbers 4).flatMap fun w => (s.watches.row w).brief)

end Sys2Proof.Machine
end

