-- ==== Sys2Proof/Machine/Device.lean ====
section
/-! DEFINITION. The requests that concern the part as a whole or its link: IDENTIFY, READ STATUS, RESET (chapter 11), SET
NOTICE MASK (chapter 3), MOVE LINK (chapter 2), SET FRAME FORMAT and SET LANES (chapter 1). -/

namespace Sys2Proof.Machine

/-- The body of an IDENTIFY reply (R173, R185). -/
def identityWords (l : Link) : List Payload :=
  [0x2A7#12 ++ 0x640#12,
   1#8 ++ 0#2 ++ l.inb ++ 0#2 ++ l.outb,
   64#8 ++ 66#8 ++ 4#8,
   8#8 ++ 8#8 ++ 16#8,
   4#8 ++ 8#8 ++ 16#8,
   8192]

/-- IDENTIFY (R173). -/
def takeIdentify (body : List Payload) (s : State) : Taken :=
  checked (readNone body) fun _ => .done s (identityWords s.link)

/-- The body of a READ STATUS reply (R174, R185). -/
def statusWords (s : State) : List Payload :=
  let t := s.timing
  (t.state.code ++ bit t.clockAbsent ++ bit t.format.sixteen ++ bit t.format.delayOne ++ t.format.sense.code
      ++ t.inLanes ++ t.outLanes ++ bit s.commit.isSome ++ ((s.commit.map (·.gate.code)).getD 0 : BitVec 1)
      ++ s.notices.lost : Payload)
    :: longPair t.frameNo
    ++ [low16 ((s.commit.map (·.limit)).getD 0), low16 ((s.commit.map (·.elapsed)).getD 0),
        low16 t.lockLosses, low16 t.searchEntries, low16 s.parser.crcErrors, low16 s.parser.abandoned,
        low16 s.parser.discards, low16 s.parser.stray]

/-- R175: the six status counters become 0. -/
def State.clearCounters (s : State) : State :=
  (s.setTiming { s.timing with lockLosses := 0, searchEntries := 0 }).setParser
    { s.parser with crcErrors := 0, abandoned := 0, discards := 0, stray := 0 }

/-- READ STATUS (R174, R175). -/
def takeReadStatus (body : List Payload) (s : State) : Taken :=
  checked (readClear body) fun clear => .done (if clear then s.clearCounters else s) (statusWords s)

/-- R177: RESET ROUTING on the state. -/
def State.resetRouting (s : State) : State :=
  let s1 := match s.commit with
    | none => s
    | some c => s.endCommit c .commitCancelled
  s1.clearRoutes.clearMixer

/-- The reply of RESET (R176, R185). -/
def resetWords (scope : BitVec 2) (cancelled : Option Commit) : List Payload :=
  [0#8 ++ ((cancelled.map (·.tag)).getD 0 : Tag) ++ 0#1 ++ bit cancelled.isSome ++ 0#6 ++ scope]

/-- RESET (R176 to R178). -/
def takeReset (body : List Payload) (s : State) : Taken :=
  checked (readScope body) fun
    | .routing => .done s.resetRouting (resetWords 1 s.commit)
    | .full => .fenced .resetFull (resetWords 2 none)

/-- R55: whether a mask enables a notice's kind. -/
def maskEnables (mask : BitVec 8) (n : Notice) : Bool := mask.getLsbD (n.val.kind - 1)

/-- SET NOTICE MASK (R55). -/
def takeSetNoticeMask (body : List Payload) (s : State) : Taken :=
  checked (readMask body) fun mask =>
    .done (s.setNotices { s.notices with mask := mask, queue := s.notices.queue.filter (maskEnables mask) }) body

/-- R36: a position names an input slot as its source, old or pending. -/
def Position.names (src : Source) : Position → Bool
  | .empty => false
  | .steady c _ | .ramping c _ => c.source == src
  | .draining c _ pend => c.source == src || pend.any fun p => p.source == src

/-- R36: some watch outside DISARMED has the subject. -/
def State.watched (s : State) (sub : Subject) : Bool :=
  s.watches.toList.any fun r => r.state != .disarmed && r.params.any fun p => p.subject == sub

/-- R36: a capture outside IDLE has the subject. -/
def State.captured (s : State) (sub : Subject) : Bool :=
  s.capture.state != .idle && s.capture.subject == some sub

/-- R36, check 4 for the inbound side: the slot is the present one, or nothing names it. -/
def State.inboundFree (s : State) (i : Slot) : Bool :=
  i == s.link.inb ||
    (!(s.staged.toList.any fun e => e.list.any fun c => c.source == i.setWidth 7)
      && !(s.active.toList.any fun e => e.pos.toList.any (Position.names (i.setWidth 7)))
      && !s.watched (.input i) && !s.captured (.input i))

/-- R36, check 4 for the outbound side: the slot is the present one, or its entries are RELEASED and nothing watches or
captures it. -/
def State.outboundFree (s : State) (i : Slot) : Bool :=
  i == s.link.outb ||
    ((s.staged.row i).drive == .released && (s.active.row i).drive == .released
      && !s.watched (.output i) && !s.captured (.output i))

/-- MOVE LINK (R36). -/
def takeMoveLink (body : List Payload) (s : State) : Taken :=
  checked (readMoveLink body) fun (inb, outb) =>
    let t := s.timing
    if !(t.format.present inb && t.format.present outb) then .refused .linkSlotAbsent
    else if !(laneOn t.inLanes inb && laneOn t.outLanes outb) then .refused .laneDisabled
    else if !(s.inboundFree inb && s.outboundFree outb) then .refused .slotInUse
    else .fenced (.moveLink inb outb) body

/-- SET FRAME FORMAT (R16). -/
def takeSetFrameFormat (body : List Payload) (s : State) : Taken :=
  checked (readFormat body) fun f =>
    if !(f.present s.link.inb && f.present s.link.outb) then .refused .linkSlotAbsent
    else .fenced (.setFormat f) body

/-- SET LANES (R18). -/
def takeSetLanes (body : List Payload) (s : State) : Taken :=
  checked (readLanes body) fun (ins, outs) =>
    if laneOn ins s.link.inb && laneOn outs s.link.outb then
      .done (s.setTiming { s.timing with inLanes := ins, outLanes := outs }) body
    else .refused .laneHoldsLink

end Sys2Proof.Machine
end

