-- ==== Sys2Proof/Machine/Executor.lean ====
section
/-! DEFINITION. The Executor (R41 to R44) and the outcomes of the trailer checks from the fourth on (R28, R38, R40, R47). -/

namespace Sys2Proof.Machine

/-- The request's own rule, by its code (R185). -/
def Queued.take (q : Queued) (s : State) : Taken :=
  match q.code.toNat with
  | 1 => takeIdentify q.body s
  | 2 => takeReadStatus q.body s
  | 3 => takeReset q.body s
  | 4 => takeSetNoticeMask q.body s
  | 5 => takeMoveLink q.body s
  | 6 => takeSetFrameFormat q.body s
  | 7 => takeSetLanes q.body s
  | 8 => takeStageRoute q.body s
  | 9 => takeStageClear q.body s
  | 10 => takeStageFromActive q.body s
  | 11 => takeReadRoute q.body s
  | 12 => takeCommit q.tag q.body s
  | 13 => takeCancelCommit q.body s
  | 14 => takeSetGain q.body s
  | 15 => takeSetGroup q.body s
  | 16 => takeGroupMute q.body s
  | 17 => takeReadGroups q.body s
  | 18 => takeReadClips q.body s
  | 19 => takeDefineRegion q.body s
  | 20 => takeReleaseRegion q.body s
  | 21 => takeWriteRegion q.body s
  | 22 => takeReadRegion q.body s
  | 23 => takeReadRegions q.body s
  | 24 => takeStartCapture q.body s
  | 25 => takeStopCapture q.body s
  | 26 => takeReadCapture q.body s
  | 27 => takeStartPlayer q.body s
  | 28 => takeStopPlayer q.body s
  | 29 => takeReadPlayers q.body s
  | 30 => takeSetWatch q.body s
  | 31 => takeClearWatch q.body s
  | 32 => takeReadWatches q.body s
  | _ => .refused .unknownCode

/-- R42, R184: a nonzero reserved header bit is a failed common check. -/
def Queued.outcome (q : Queued) (s : State) : Taken :=
  if q.hdrReserved then .refused .badField else q.take s

/-- R42 to R44: the completion of a taking. A refusal changes nothing but the request's own place. -/
def State.complete (s : State) (tag : Tag) : Taken → State
  | .refused st => s.reply tag st []
  | .done s' body => s'.reply tag .done body
  | .deferred s' => s'
  | .fenced eff body => (s.reply tag .done body).setExecutor (.fenced tag eff false)

/-- R41: the Executor takes requests from the head, one after another, until the queue is empty or a fenced request has
been taken. Each finds the natural ends before it whole (R158). `n` bounds the requests taken; the queue holds no more than
its length. -/
def State.drain : Nat → State → State
  | 0, s => s
  | n + 1, s =>
    match s.executor, s.cmdq with
    | .idle, q :: rest =>
      let s1 := s.postEnds.setCmdq rest
      State.drain n (s1.complete q.tag (q.outcome s1))
    | _, _ => s

/-- The Executor works off what it may of its queue (R41). -/
def State.runExecutor (s : State) : State := s.drain s.cmdq.length

/-- R28, checks 4 to 7, in order; `none`: all pass. -/
def State.lateCheck (s : State) (tag : Tag) (code : Code) : Option Status :=
  if tag = 0 then some .badField
  else if !(decide (1 ≤ code.toNat) && decide (code.toNat ≤ 32)) then some .unknownCode
  else if s.replies.live tag then some .duplicateTag
  else if Config.commandQueueSize ≤ s.cmdq.length then some .busy
  else none

/-- R47: the outcome of the trailer checks asks for a place. With none FREE the message is discarded and counted; a
refusal becomes READY at once; an accepted request reserves its place, joins the Command Queue (R40), and is taken if
the Executor may take it (R41). -/
def State.settle (s : State) (tag : Tag) (code : Code) (hdrReserved : Bool) (body : List Payload)
    (verdict : Option Status) : State :=
  if s.replies.free = 0 then s.setParser { s.parser with discards := satInc s.parser.discards }
  else
    match verdict with
    | some st =>
      s.setReplies { s.replies with ready := s.replies.ready ++ [⟨tag, st, refusalBody code, true⟩] }
    | none =>
      ((s.setReplies { s.replies with reserved := s.replies.reserved ++ [⟨tag, code⟩] }).setCmdq
        (s.cmdq ++ [⟨tag, code, hdrReserved, body⟩])).runExecutor

/-- A whole request message whose tag echo, length and CRC agree: what the remaining trailer checks make of it (R28), and
what the Executor then does (R41, R42). -/
def State.request (s : State) (tag : Tag) (code : Code) (hdrReserved : Bool) (body : List Payload) : State :=
  s.settle tag code hdrReserved body (s.lateCheck tag code)

/-- A request command: the request of code `code`. -/
def State.deliver (s : State) (code : Code) (r : Req) : State := s.request r.tag code r.hdrReserved r.body

end Sys2Proof.Machine
end

