-- ==== Sys2Proof/Machine/Inbound.lean ====
section
/-! DEFINITION. The Inbound Parser (2.3) and the link resync (2.5). -/

namespace Sys2Proof.Machine

/-- R30: an abandonment: Inbound Abandoned is counted, the message dropped, INBOUND_ABANDONED posted with the tag of the
header as received and the count of body words stored. In HUNT there is nothing to abandon. -/
def State.abandon (s : State) (reason : Reason) (frame : FrameNo) : State :=
  match s.parser.rx with
  | none => s
  | some m =>
    (s.setParser { s.parser with rx := none, abandoned := satInc s.parser.abandoned }).post
      (.inboundAbandoned frame reason (Header.tag m.header) m.words.length)

/-- R24: a word with no request header before it. -/
def State.countStray (s : State) : State := s.setParser { s.parser with stray := satInc s.parser.stray }

/-- R24: a header taken in HUNT. -/
def State.takeHeader (s : State) (w : LinkBits) : State :=
  if Header.origin w = 0 then s.setParser { s.parser with rx := some ⟨w, []⟩, gap := 0 } else s.countStray

/-- R27: a gap word. In BODY the ninth in a row abandons the message. -/
def State.takeGap (s : State) : State :=
  match s.parser.rx with
  | none => s
  | some _ =>
    if Config.gapLimit ≤ s.parser.gap then s.abandon .gap s.now
    else s.setParser { s.parser with gap := s.parser.gap + 1 }

/-- The payload of a stored body word. -/
def payloadOf (w : LinkBits) : Payload := w.extractLsb' 0 24

/-- R28: a trailer ends the message being received: checks 1 to 3 here, the rest in `State.lateCheck`; the parser returns to
HUNT whatever the outcome. A failed CRC check is counted. -/
def State.takeTrailer (s : State) (m : Rx) (echo : Tag) (crc : BitVec 16) : State :=
  let h := m.header
  let tag := Header.tag h
  let s1 := s.setParser { s.parser with rx := none }
  let finish := fun (t : State) (v : Option Status) =>
    t.settle tag (Header.code h) (Header.reservedSet h) (m.words.map payloadOf) v
  if echo ≠ tag then finish s1 (some .badTrailer)
  else if m.words.length ≠ (Header.length h).toNat then finish s1 (some .badLength)
  else if crcOf (h :: m.words) ≠ crc then
    finish (s1.setParser { s1.parser with crcErrors := satInc s1.parser.crcErrors }) (some .badCrc)
  else finish s1 (s1.lateCheck tag (Header.code h))

/-- R34: the fenced request a resync releases: one whose trailer has not been emitted. -/
def Executor.released : Executor → Bool
  | .fenced _ _ false => true
  | .idle | .fenced _ _ true => false

/-- R33 to R35, R81: the link resync. -/
def State.resync (s : State) : State :=
  let dropped := s.cmdq.length + (if s.executor.released then 1 else 0)
  let s1 := s.setParser { s.parser with rx := none, gap := 0, breakRun := 0 }
  let s2 := (s1.setCmdq []).setExecutor (if s.executor.released then .idle else s.executor)
  let s3 := ((s2.setCommit none).setReplies ReplyQueue.reset).setComposer Composer.reset
  s3.post (.linkResync s.now dropped s.commit.isSome)

/-- The parser takes the word of the management inbound slot at a frame arrival (R22, R24 to R28, R33). -/
def State.parserWord (s : State) (w : LinkBits) : State :=
  match LinkWord.ofBits w with
  | .brk =>
    if 3 ≤ s.parser.breakRun then s.resync
    else (s.setParser { s.parser with breakRun := s.parser.breakRun + 1 }).takeGap
  | .idle => (s.setParser { s.parser with breakRun := 0 }).takeGap
  | .header h =>
    ((s.setParser { s.parser with breakRun := 0, gap := 0 }).abandon .interrupted s.now).takeHeader h
  | .body index _ =>
    let s1 := s.setParser { s.parser with breakRun := 0, gap := 0 }
    match s.parser.rx with
    | none => s1.countStray
    | some m =>
      if index.toNat = m.words.length ∧ m.words.length < Config.bodyWords then
        s1.setParser { s1.parser with rx := some { m with words := m.words ++ [w] } }
      else s1.abandon .sequence s.now
  | .trailer echo crc =>
    let s1 := s.setParser { s.parser with breakRun := 0, gap := 0 }
    match s.parser.rx with
    | none => s1.countStray
    | some m => s1.takeTrailer m echo crc

/-- R29: the parser at an entry to HOLDOVER or SEARCH; the abandonment carries the frame number at the entry. -/
def State.parserLost (s : State) (frame : FrameNo) : State :=
  let s1 := s.abandon .lockLost frame
  s1.setParser { s1.parser with gap := 0, breakRun := 0 }

end Sys2Proof.Machine
end

