-- ==== Sys2Proof/Machine/Outbound.lean ====
section
/-! DEFINITION. The Outbound Composer's emission (2.4) and the arbiter (3.5). -/

namespace Sys2Proof.Machine

/-- The origin values of a header the part sends (R181). -/
def replyOrigin : BitVec 2 := 1
def noticeOrigin : BitVec 2 := 2

/-- The words of a reply, its stamp taken at the header's first emission (R39, R182). -/
def Reply.message (r : Reply) (frame : FrameNo) : List LinkBits :=
  messageWords replyOrigin r.tag r.status.code r.body frame

/-- The words of a notice: its tag is the notice sequence and it carries Notices Lost (R53, R188). -/
def Notice.message (n : Notice) (seq : Tag) (lost : BitVec 8) (frame : FrameNo) : List LinkBits :=
  messageWords noticeOrigin seq (BitVec.ofNat 6 n.val.kind) (n.body lost) frame

/-- R57: which kind the arbiter chooses, `true` for a reply; `none` where neither queue has anything. -/
def arbiterChoice (hasReply hasNotice lastReply : Bool) : Option Bool :=
  match hasReply, hasNotice with
  | true, true => some !lastReply
  | true, false => some true
  | false, true => some false
  | false, false => none

/-- R44, R48: the trailer of a reply is emitted: its place becomes FREE, its request stops being live, and a fence that
waited for it now waits for the close of the output frame. -/
def State.freePlace (s : State) : State :=
  match s.replies.ready with
  | [] => s
  | r :: rest =>
    let s1 := s.setReplies { s.replies with ready := rest }
    match s.executor with
    | .fenced tag eff false =>
      if r.refusal = false ∧ r.tag = tag then s1.setExecutor (.fenced tag eff true) else s1
    | _ => s1

/-- R31: word `i` of the message in progress is emitted; its trailer ends it. Answers the word. -/
def State.sendWord (s : State) (m : OutMessage) (i : Nat) : State × LinkBits :=
  let w := m.words.getD i idleWord
  if m.words.length ≤ i + 1 then
    let s1 := s.setComposer { s.composer with message := none, restart := false }
    (if m.isReply then s1.freePlace else s1, w)
  else (s.setComposer { s.composer with message := some { m with sent := i + 1 }, restart := false }, w)

/-- R31, R32, R53, R57: the word the composer places at the beginning of an output frame in LOCKED. -/
def State.nextWord (s : State) : State × LinkBits :=
  match s.composer.message with
  | some m => s.sendWord m (if s.composer.restart then 0 else m.sent)
  | none =>
    match arbiterChoice (!s.replies.ready.isEmpty) (!s.notices.queue.isEmpty) s.composer.lastReply with
    | some true =>
      match s.replies.ready with
      | r :: _ =>
        (s.setComposer { s.composer with lastReply := true }).sendWord ⟨r.message s.now, 0, true⟩ 0
      | [] => (s, idleWord)
    | some false =>
      match s.notices.queue with
      | n :: rest =>
        ((s.setComposer { s.composer with lastReply := false }).setNotices
          { s.notices with queue := rest, lost := 0, seq := s.notices.seq + 1 }).sendWord
            ⟨n.message s.notices.seq s.notices.lost s.now, 0, false⟩ 0
      | [] => (s, idleWord)
    | none => (s, idleWord)

/-- Puts a word on the pins of the management outbound slot, if its lane is driven (R13). -/
def State.putWord (s : State) (w : LinkBits) : State :=
  s.setPins (s.pins.put s.link.outb (if s.outEnabled s.link.outb then some w else none))

/-- R31: the management outbound slot of the output frame that begins now: a word of the composer in LOCKED, IDLE in
HOLDOVER, released in SEARCH and CONFIRM. -/
def State.emitWord (s : State) : State :=
  match s.timing.state with
  | .locked => let (t, w) := s.nextWord; t.putWord w
  | .holdover => s.putWord idleWord
  | .search | .confirm => s

/-- R32: at an entry to HOLDOVER or SEARCH a message in progress is marked to be sent again. -/
def State.markRestart (s : State) : State :=
  if s.composer.message.isSome then s.setComposer { s.composer with restart := true } else s

end Sys2Proof.Machine
end

