-- ==== Sys2Proof/Machine/Frame.lean ====
section
/-! DEFINITION. A timing event and the phases that fall at it: what each phase does, the orders the spec allows, the
effects of fenced requests, and the running of an event, whole or in part. -/

namespace Sys2Proof.Machine

/-! ## Effects at the close of an output frame -/

/-- What the timing unit holds on entering SEARCH from another state (R10, R11, R15, R17). -/
def Timing.toSearch (t : Timing) : Timing :=
  { t with
    state := .search, sinceRef := none, confirmCount := none, holdoverCount := 0, returnRun := false
    searchEntries := satInc t.searchEntries }

/-- An entry to SEARCH from another state: the lanes are released, the results in flight discarded, a message in
progress marked (R13, R32, R110). -/
def State.enterSearch (s : State) : State := (s.setTiming s.timing.toSearch).releaseLanes.markRestart

/-- Sets the state entry that the open event reports. -/
def State.setEntry (s : State) (e : Option Entry) : State :=
  s.setFrame (s.frame.map fun c => { c with entry := e })

/-- R37: the effect of MOVE LINK. The old outbound slot is released from this output frame on. -/
def State.moveLink (s : State) (inb outb : Slot) : State :=
  let s1 := (s.setPins (s.pins.put s.link.outb none)).setLink ⟨inb, outb⟩
  let s2 := s1.abandon .linkMoved s.now
  (s2.setParser { s2.parser with gap := 0, breakRun := 0 }).setExecutor .idle

/-- R17: the effect of SET FRAME FORMAT: the format is adopted, and SEARCH entered unless the closing event entered it. -/
def State.changeFormat (s : State) (f : Format) : State :=
  let s1 := (s.setTiming { s.timing with format := f }).setExecutor .idle
  if s.timing.state = .search then s1
  else s1.enterSearch.setEntry (some ⟨.search, .formatChange, s.now⟩)

/-- R150: the capture record after RESET FULL: cleared, but for the end reason ABORTED of a capture that ran. -/
def Capture.fullReset (k : Capture) : Capture :=
  if k.state = .idle then Capture.cleared else { Capture.cleared with endReason := some .aborted }

/-- R179: the effect of RESET FULL, one event. Timing, format, lanes, frame number, link assignment, memory contents and
the result in flight are kept (R5, R22, R117, R119). -/
def State.fullReset (s : State) : State :=
  let s1 := s.setCapture s.capture.fullReset
  let s2 := (s1.setPlayers (Table.tab fun _ => Player.reset)).setRegions (Table.tab fun _ => none)
  let s3 := (((s2.setCmdq []).setReplies ReplyQueue.reset).setExecutor .idle).setCommit none
  let s4 := (s3.setNotices NoticeSide.reset).setComposer { s.composer with lastReply := false }
  let s5 := (s4.setParser Parser.reset).setTiming { s.timing with lockLosses := 0, searchEntries := 0 }
  (s5.setWatches (Table.tab fun _ => Watch.reset)).clearRoutes.clearMixer

/-- R44: at the close of the output frame that carried its reply's trailer, a fenced request takes its effect and the
Executor returns to IDLE. -/
def State.takeEffect (s : State) : State :=
  match s.executor with
  | .fenced _ eff true =>
    let s0 := s.setEntry none
    match eff with
    | .moveLink inb outb => s0.moveLink inb outb
    | .setFormat f => s0.changeFormat f
    | .resetFull => s0.fullReset
  | _ => s

/-! ## What each phase does -/

/-- R14: the FRAME_STATE posting of the event's state entry. -/
def State.postEntry (s : State) (e : Option Entry) : State :=
  match e with
  | none => s
  | some e => s.post (.frameState e.frame e.state e.cause s.timing.clockAbsent)

/-- R29: the parser's action at the event's state entry. -/
def State.parserEntry (s : State) (e : Option Entry) : State :=
  match e with
  | none => s
  | some e => s.parserLost e.frame

/-- One phase of the open event. The Executor takes the requests that a fence held back one in each `.drain`, so that the
arbiter's choice may fall before, between or after them (R50). -/
def State.runPhase (s : State) (p : Phase) : State :=
  match s.frame with
  | none => s
  | some c =>
    match p with
    | .entryNotice | .effectNotice => s.postEntry c.entry
    | .entryParser | .effectParser => s.parserEntry c.entry
    | .group g => s.groupStep g
    | .commitTest => s.commitStep (c.kind == .arrival)
    | .player n => s.playerStep n
    | .playerNotice n => s.postEnd c n
    | .output => s.beginOutput
    | .mixer => s.mix c
    | .watch w => s.watchStep c w
    | .capture => s.captureStep c
    | .parser => s.parserWord c.word
    | .effect => s.takeEffect
    | .drain => s.drain 1
    | .word => s.emitWord

end Sys2Proof.Machine

namespace Sys2Proof

/-! ## The orders the spec allows -/

/-- Rank of a phase among those whose order the spec fixes. -/
def Phase.rank : Phase → Nat
  | .entryNotice | .entryParser => 0
  | .group _ | .commitTest | .player _ | .output | .parser => 1
  | .mixer | .watch _ | .playerNotice _ => 2
  | .capture => 3
  | .effect => 4
  | .effectNotice | .effectParser => 5
  | .drain => 6
  | .word => 7

/-- `q` comes before `p` wherever both fall at one event. A state entry is taken before the frame is declared (R12); the
computation after the commit test and the expiries (R106); the readers of a player's sample or of an emitted value
after it is known (R105, R111), and also where they do not read it, which the spec leaves open (DESIGN CHOICE,
assumption 31); the mixer after the output frame that takes what is in flight (R110); the capture after the watches
(R138); the effect of a fenced request after its closing event and the output frame that begins there, what follows from it
after it, and the next word after the effect (R17, R37, R178, R179; DEDUCED, assumption 13). A player's
PLAYER_DONE comes after the frame step that ends it, and before or after what other blocks post at the frame (R52); a
request taken after that step finds it posted, whatever part the request is taken in (R158, `State.postEnds`). The
LOCK_LOST abandonment at a format change's entry to SEARCH and a request that waited for the fence fall in either order
(R175); every other part of the closing event, its expiries, commit test, steps and evaluations, comes before such a request,
also where a rule lets that part and a request of the same frame fall in either order (R70, R76, R78, R90, R92, R102, R116,
R132, R137, R147, R149, R158, R159, R170, R171, R177; DEDUCED, assumption 32), and so does what the closing event and the effect itself
count (R175; DEDUCED, assumption 28). A posting
that belongs to one of the ordered steps falls where its step does (DEDUCED, assumption 26). All else is left
open. -/
def Phase.mustPrecede (q p : Phase) : Bool :=
  match q, p with
  | .word, _ => false
  | .effect, .word => true
  | _, .word => false
  | .group _, .mixer | .commitTest, .mixer => true
  | .player _, .mixer | .player _, .watch _ | .player _, .capture => true
  | .output, .mixer | .output, .watch _ | .output, .capture => true
  | .watch _, .capture => true
  | .player a, .playerNotice b => a == b
  | .effectParser, .drain => false
  | q, p => (q.rank == 0 && decide (0 < p.rank)) || (decide (4 ≤ p.rank) && decide (q.rank < p.rank))

/-- A phase still to come that nothing still to come must precede. -/
def Phase.ready (todo : List Phase) (p : Phase) : Bool :=
  todo.contains p && !(todo.any fun q => q.mustPrecede p)

/-- The next phase: the first ready one of the order asked for, else the first ready one of the standing order. -/
def nextPhase (first todo : List Phase) : Option Phase :=
  (first.find? (Phase.ready todo)).orElse fun _ => todo.find? (Phase.ready todo)

/-- The phases of an event in the order in which they are taken. Each phase asked for stands for one taking of it: one `.drain`
of several may be asked for ahead of the word. -/
def schedule : Nat → List Phase → List Phase → List Phase
  | 0, _, todo => todo
  | n + 1, first, todo =>
    match nextPhase first todo with
    | none => todo
    | some p => p :: schedule n (first.erase p) (todo.erase p)

/-- The order a `Sched` gives the phases of an event, which stand in an allowed order themselves. -/
def Sched.order (sch : Sched) (phases : List Phase) : List Phase :=
  if sch.first.isEmpty then phases else schedule phases.length sch.first phases

end Sys2Proof

namespace Sys2Proof.Machine

/-! ## The phases of an event -/

/-- A fenced request's reply has been sent to its trailer, so that this event closes its output frame (R44). -/
def State.closing (s : State) : Bool :=
  match s.executor with
  | .fenced _ _ true => true
  | _ => false

/-- The phases of an effect, if this event is to take one, with one taking for each place of the Command Queue (R40). -/
def State.closePhases (s : State) : List Phase :=
  if s.closing then [.effect, .effectNotice, .effectParser] ++ List.replicate Config.commandQueueSize .drain else []

/-- The phases of a frame arrival (`true`) or an emitted frame (`false`), in the model's standing order. The parser takes a
word, and the watches are evaluated, at a frame arrival alone (R22, R163). -/
def State.framePhases (s : State) (arrival : Bool) : List Phase :=
  (Table.numbers 3).map Phase.group ++ [.commitTest, .player 0, .playerNotice 0, .player 1, .playerNotice 1, .output, .mixer]
    ++ (if arrival then (Table.numbers 4).map Phase.watch else []) ++ [.capture]
    ++ (if s.closing then (if arrival then [.parser] else []) ++ s.closePhases ++ [.word]
        else [.word] ++ (if arrival then [.parser] else []))

/-! ## Running an event -/

/-- Takes the phases of the open event from the front while `go` holds of those still to come; an event with none left is
over. -/
def State.runWhile (go : List Phase → Bool) : Nat → State → State
  | 0, s => s
  | n + 1, s =>
    match s.frame with
    | none => s
    | some c =>
      match c.todo with
      | [] => s.setFrame none
      | p :: rest =>
        if go (p :: rest) then
          State.runWhile go n ((s.setFrame (some { c with todo := rest })).runPhase p)
        else s

/-- How many phases of the open event are still to come. -/
def State.openPhases (s : State) : Nat :=
  match s.frame with
  | none => 0
  | some c => c.todo.length

/-- Takes all that is still open. -/
def State.finish (s : State) : State := s.runWhile (fun _ => true) (s.openPhases + 1)

/-- A timing event is declared and taken, but for the last `sch.keep` phases. The input slot values and the management
word are those of the frame it declares, under the lane enables and the link assignment as they stand (R3, R18, R22). -/
def State.event (s : State) (kind : FrameKind) (entry : Option Entry) (inp : FrameIn) (phases : List Phase)
    (sch : Sched) : State :=
  let c : FrameCtx :=
    { kind := kind, entry := entry, inputs := Table.tab (s.inputValue inp), word := inp.lanes.row s.link.inb
      given := Table.tab fun _ => 0, ended := Table.tab fun _ => none, emitted := Table.tab fun _ => 0, alerts := []
      todo := sch.order phases }
  (s.setFrame (some c)).runWhile (fun todo => decide (sch.keep < todo.length)) (phases.length + 1)

/-- An event that declares no frame. -/
def State.bareEvent (s : State) (entry : Option Entry) (phases : List Phase) (sch : Sched) : State :=
  s.event .bare entry (FrameIn.ofList []) phases sch

/-- Takes what must come before `p` of the open event. -/
def State.upTo (s : State) (p : Phase) : State :=
  match s.frame with
  | none => s
  | some c =>
    let pre := c.todo.filter fun q => q.mustPrecede p
    let rest := c.todo.filter fun q => !q.mustPrecede p
    (s.setFrame (some { c with todo := pre ++ rest })).runWhile
      (fun todo => match todo with
        | q :: _ => q.mustPrecede p
        | [] => false)
      (pre.length + 1)

/-- An open event with no phase left is over. -/
def State.closeEvent (s : State) : State := if s.openPhases = 0 then s.setFrame none else s

/-- Takes phase `p` of the open event now, after what must come before it, if it is still to come and `due` holds then;
otherwise nothing happens. -/
def State.takeDue (s : State) (p : Phase) (due : State → FrameCtx → Bool) : State :=
  let s1 := s.upTo p
  match s1.frame with
  | none => s
  | some c =>
    if c.todo.contains p && due s1 c then
      ((s1.setFrame (some { c with todo := c.todo.erase p })).runPhase p).closeEvent
    else s

end Sys2Proof.Machine
end

