-- ==== Sys2Proof/Machine/Events.lean ====
section
/-! DEFINITION. The commands for what happens inside a timing event: each takes its own part of the open event now, before
the other parts still open, if its event falls there. Left alone, every such event happens all the same when the open
event is finished. -/

namespace Sys2Proof.Machine

/-- R27: the open frame's word is an IDLE or BREAK word that abandons the message for its gap. -/
def gapDue (s : State) (c : FrameCtx) : Bool :=
  s.parser.rx.isSome && decide (Config.gapLimit ≤ s.parser.gap) &&
    (LinkWord.ofBits c.word == .idle || (LinkWord.ofBits c.word == .brk && decide (s.parser.breakRun < 3)))

/-- ABANDON_GAP (R27). -/
def execAbandonGap (s : State) : Host.Outcome State Fault Refusal := .next (s.takeDue .parser gapDue)

/-- R28: the open frame's word is a trailer and a message is being received. -/
def trailerDue (s : State) (c : FrameCtx) : Bool :=
  s.parser.rx.isSome &&
    match LinkWord.ofBits c.word with
    | .trailer _ _ => true
    | _ => false

/-- REQUEST_MESSAGE (R28). -/
def execRequestMessage (s : State) : Host.Outcome State Fault Refusal := .next (s.takeDue .parser trailerDue)

/-- R33: the open frame's word is a BREAK that completes a run of four. -/
def resyncDue (s : State) (c : FrameCtx) : Bool :=
  LinkWord.ofBits c.word == .brk && decide (3 ≤ s.parser.breakRun)

/-- LINK_RESYNC (R34, R35). -/
def execLinkResync (s : State) : Host.Outcome State Fault Refusal := .next (s.takeDue .parser resyncDue)

/-- R44: the effect to be taken at the open event. -/
def State.dueEffect (s : State) : Option Effect :=
  match s.executor with
  | .fenced _ eff true => some eff
  | _ => none

/-- R37: a MOVE LINK takes its effect at the open event. -/
def moveDue (s : State) (_ : FrameCtx) : Bool :=
  match s.dueEffect with
  | some (.moveLink _ _) => true
  | _ => false

/-- MOVE_LINK_EFFECT (R37). -/
def execMoveLinkEffect (s : State) : Host.Outcome State Fault Refusal := .next (s.takeDue .effect moveDue)

/-- R17: a SET FRAME FORMAT takes its effect at the open event. -/
def formatDue (s : State) (_ : FrameCtx) : Bool :=
  match s.dueEffect with
  | some (.setFormat _) => true
  | _ => false

/-- FORMAT_CHANGE_EFFECT (R17). -/
def execFormatChangeEffect (s : State) : Host.Outcome State Fault Refusal := .next (s.takeDue .effect formatDue)

/-- R179: RESET FULL takes its effect at the open event. -/
def fullResetDue (s : State) (_ : FrameCtx) : Bool := s.dueEffect == some .resetFull

/-- RESET_FULL_EFFECT (R179). -/
def execResetFullEffect (s : State) : Host.Outcome State Fault Refusal := .next (s.takeDue .effect fullResetDue)

/-- R70, R71: the open arrival's test meets the pending commit's gate. -/
def applyDue (s : State) (c : FrameCtx) : Bool :=
  c.kind == .arrival && s.commit.any fun k => k.gateMet s.active

/-- COMMIT_APPLY (R71). -/
def execCommitApply (s : State) : Host.Outcome State Fault Refusal := .next (s.takeDue .commitTest applyDue)

/-- R73: the open frame brings the elapsed count of a RAMPS_IDLE commit to its limit. -/
def timeoutDue (s : State) (c : FrameCtx) : Bool :=
  s.commit.any fun k => !(c.kind == .arrival && k.gateMet s.active) && k.tick.timedOut

/-- COMMIT_TIMEOUT (R73). -/
def execCommitTimeout (s : State) : Host.Outcome State Fault Refusal := .next (s.takeDue .commitTest timeoutDue)

/-- GROUP_EXPIRY (R83, R87). -/
def execGroupExpiry (g : GroupNo) (s : State) : Host.Outcome State Fault Refusal :=
  .next (s.takeDue (.group g) fun t _ => (t.groups.row g).expiring)

/-- The capture step of the open frame ends the running capture with `reason`. -/
def stopDue (reason : EndReason) (s : State) (c : FrameCtx) : Bool :=
  s.capture.state != .idle &&
    (let t := s.captureStep c
     t.capture.state == .idle && t.capture.endReason == some reason)

/-- CAPTURE_FULL (R139). -/
def execCaptureFull (s : State) : Host.Outcome State Fault Refusal := .next (s.takeDue .capture (stopDue .full))

/-- CAPTURE_POST_DONE (R144, R145). -/
def execCapturePostDone (s : State) : Host.Outcome State Fault Refusal :=
  .next (s.takeDue .capture (stopDue .postDone))

/-- R154, R156: player `p` presents the last sample of its last pass at the open frame. -/
def endDue (p : PlayerNo) (s : State) (_ : FrameCtx) : Bool :=
  (s.playerRegion p).any fun r => (s.players.row p).ends r.valid

/-- R156: player `p` has ended at the open frame and its PLAYER_DONE is still to be posted. -/
def endedDue (p : PlayerNo) (_ : State) (c : FrameCtx) : Bool := (c.ended.row p).isSome

/-- PLAYER_NATURAL_END (R156): the frame step that ends the player, and its posting. -/
def execPlayerNaturalEnd (p : PlayerNo) (s : State) : Host.Outcome State Fault Refusal :=
  .next ((s.takeDue (.player p) (endDue p)).takeDue (.playerNotice p) (endedDue p))

end Sys2Proof.Machine
end

