-- ==== Sys2Proof/Machine/Requests.lean ====
section
/-! DEFINITION. The request commands. Each is a whole request message of its code whose tag echo, length and CRC agree: the
remaining trailer checks and the Reply Queue decide what becomes of it (R28, R47), and the Executor takes it as soon as it
may (R41). Its rule is the `take…` definition of its code. -/

namespace Sys2Proof.Machine

/-- IDENTIFY, code 1 (R173). -/
def execIdentify (r : Req) (s : State) : Host.Outcome State Fault Refusal := .next (s.deliver 1 r)

/-- READ STATUS, code 2 (R174). -/
def execReadStatus (r : Req) (s : State) : Host.Outcome State Fault Refusal := .next (s.deliver 2 r)

/-- SET NOTICE MASK, code 4 (R55). -/
def execSetNoticeMask (r : Req) (s : State) : Host.Outcome State Fault Refusal := .next (s.deliver 4 r)

/-- MOVE LINK, code 5 (R36). -/
def execMoveLink (r : Req) (s : State) : Host.Outcome State Fault Refusal := .next (s.deliver 5 r)

/-- SET FRAME FORMAT, code 6 (R16). -/
def execSetFrameFormat (r : Req) (s : State) : Host.Outcome State Fault Refusal := .next (s.deliver 6 r)

/-- SET LANES, code 7 (R18). -/
def execSetLanes (r : Req) (s : State) : Host.Outcome State Fault Refusal := .next (s.deliver 7 r)

/-- STAGE ROUTE, code 8 (R65). -/
def execStageRoute (r : Req) (s : State) : Host.Outcome State Fault Refusal := .next (s.deliver 8 r)

/-- STAGE CLEAR, code 9 (R66). -/
def execStageClear (r : Req) (s : State) : Host.Outcome State Fault Refusal := .next (s.deliver 9 r)

/-- STAGE FROM ACTIVE, code 10 (R67). -/
def execStageFromActive (r : Req) (s : State) : Host.Outcome State Fault Refusal := .next (s.deliver 10 r)

/-- READ ROUTE, code 11 (R68). -/
def execReadRoute (r : Req) (s : State) : Host.Outcome State Fault Refusal := .next (s.deliver 11 r)

/-- COMMIT, code 12 (R69). -/
def execCommit (r : Req) (s : State) : Host.Outcome State Fault Refusal := .next (s.deliver 12 r)

/-- CANCEL COMMIT, code 13 (R75). -/
def execCancelCommit (r : Req) (s : State) : Host.Outcome State Fault Refusal := .next (s.deliver 13 r)

/-- SET GAIN, code 14 (R77). -/
def execSetGain (r : Req) (s : State) : Host.Outcome State Fault Refusal := .next (s.deliver 14 r)

/-- SET GROUP, code 15 (R91). -/
def execSetGroup (r : Req) (s : State) : Host.Outcome State Fault Refusal := .next (s.deliver 15 r)

/-- GROUP MUTE, code 16 (R88). -/
def execGroupMute (r : Req) (s : State) : Host.Outcome State Fault Refusal := .next (s.deliver 16 r)

/-- READ GROUPS, code 17 (R98). -/
def execReadGroups (r : Req) (s : State) : Host.Outcome State Fault Refusal := .next (s.deliver 17 r)

/-- READ CLIPS, code 18 (R115). -/
def execReadClips (r : Req) (s : State) : Host.Outcome State Fault Refusal := .next (s.deliver 18 r)

/-- DEFINE REGION, code 19 (R124). -/
def execDefineRegion (r : Req) (s : State) : Host.Outcome State Fault Refusal := .next (s.deliver 19 r)

/-- RELEASE REGION, code 20 (R125). -/
def execReleaseRegion (r : Req) (s : State) : Host.Outcome State Fault Refusal := .next (s.deliver 20 r)

/-- WRITE REGION, code 21 (R126). -/
def execWriteRegion (r : Req) (s : State) : Host.Outcome State Fault Refusal := .next (s.deliver 21 r)

/-- READ REGION, code 22 (R128). -/
def execReadRegion (r : Req) (s : State) : Host.Outcome State Fault Refusal := .next (s.deliver 22 r)

/-- READ REGIONS, code 23 (R129). -/
def execReadRegions (r : Req) (s : State) : Host.Outcome State Fault Refusal := .next (s.deliver 23 r)

/-- START CAPTURE, code 24 (R136). -/
def execStartCapture (r : Req) (s : State) : Host.Outcome State Fault Refusal := .next (s.deliver 24 r)

/-- STOP CAPTURE, code 25 (R147). -/
def execStopCapture (r : Req) (s : State) : Host.Outcome State Fault Refusal := .next (s.deliver 25 r)

/-- READ CAPTURE, code 26 (R149). -/
def execReadCapture (r : Req) (s : State) : Host.Outcome State Fault Refusal := .next (s.deliver 26 r)

/-- START PLAYER, code 27 (R155). -/
def execStartPlayer (r : Req) (s : State) : Host.Outcome State Fault Refusal := .next (s.deliver 27 r)

/-- STOP PLAYER, code 28 (R157). -/
def execStopPlayer (r : Req) (s : State) : Host.Outcome State Fault Refusal := .next (s.deliver 28 r)

/-- READ PLAYERS, code 29 (R159). -/
def execReadPlayers (r : Req) (s : State) : Host.Outcome State Fault Refusal := .next (s.deliver 29 r)

/-- SET WATCH, code 30 (R168). -/
def execSetWatch (r : Req) (s : State) : Host.Outcome State Fault Refusal := .next (s.deliver 30 r)

/-- CLEAR WATCH, code 31 (R169). -/
def execClearWatch (r : Req) (s : State) : Host.Outcome State Fault Refusal := .next (s.deliver 31 r)

/-- READ WATCHES, code 32 (R170). -/
def execReadWatches (r : Req) (s : State) : Host.Outcome State Fault Refusal := .next (s.deliver 32 r)

/-- RESET with scope ROUTING, code 3 (R176, R177). -/
def execResetRouting (tag : Tag) (hdrReserved : Bool) (s : State) : Host.Outcome State Fault Refusal :=
  .next (s.deliver 3 ⟨tag, hdrReserved, [1]⟩)

/-- RESET with scope FULL, code 3 (R176, R178). -/
def execResetFull (tag : Tag) (hdrReserved : Bool) (s : State) : Host.Outcome State Fault Refusal :=
  .next (s.deliver 3 ⟨tag, hdrReserved, [2]⟩)

end Sys2Proof.Machine
end

