-- ==== Sys2Proof/Machine/Timing.lean ====
section
/-! DEFINITION. The commands of the Frame Timing Unit (chapter 1): pin reset, the FSYNC edges and expected points, and the
bit clock's absence and return. A timing event first takes whatever is still open of the event before it. In a state in
which the spec gives no such event, the command changes nothing. -/

namespace Sys2Proof.Machine

/-- The frame number after a declared frame (R12). -/
def Timing.advance (t : Timing) : Timing := { t with frameNo := t.frameNo + 1 }

/-- R6, R10: the BCLK count of the next expected point in HOLDOVER. -/
def Timing.nextPoint (t : Timing) : Nat :=
  (t.sinceRef.getD 0 / t.format.spacing + 1) * t.format.spacing

/-- PIN_RESET: every block at its pin-reset values, the memory's contents unknown again (R5, R119). -/
def State.pinReset (s : State) : State :=
  { State.reset with pending := s.pending, powerUps := s.powerUps + 1 }

/-- PIN_RESET (R5). -/
def execPinReset (s : State) : Host.Outcome State Fault Refusal := .next s.pinReset

/-- R7: the first edge in SEARCH. -/
def Timing.searchEdge (t : Timing) : Timing :=
  { t with state := .confirm, confirmCount := some 1, sinceRef := some 0 }

/-- SEARCH_EDGE (R7). An edge is a BCLK edge too, so none falls while the bit clock is absent (R11). -/
def execSearchEdge (s : State) : Host.Outcome State Fault Refusal :=
  let s1 := s.finish
  if s1.timing.state = .search ∧ s1.timing.clockAbsent = false then .next (s1.setTiming s1.timing.searchEdge)
  else .next s

/-- R7: LOCKED entered at the third consecutive on-time edge. -/
def Timing.lock (t : Timing) : Timing :=
  { t with state := .locked, confirmCount := none, sinceRef := some 0, holdoverCount := 0, returnRun := false }

/-- CONFIRM_EDGE (R7). The edge that enters LOCKED begins an output frame (R13, R31). -/
def execConfirmEdge (spacing : Nat) (sch : Sched) (s : State) : Host.Outcome State Fault Refusal :=
  let s1 := s.finish
  let t := s1.timing
  if t.state = .confirm then
    if spacing = t.format.spacing then
      if t.confirmCount = some 2 then
        .next ((s1.setTiming t.lock).bareEvent (some ⟨.locked, .confirmed, s1.now⟩) [.entryNotice, .output, .word] sch)
      else .next (s1.setTiming { t with confirmCount := some 2, sinceRef := some 0 })
    else .next (s1.setTiming { t with confirmCount := some 1, sinceRef := some 0 })
  else .next s

/-- FRAME_ARRIVAL (R8). -/
def execFrameArrival (inp : FrameIn) (sch : Sched) (s : State) : Host.Outcome State Fault Refusal :=
  let s1 := s.finish
  if s1.timing.state = .locked then
    .next ((s1.setTiming { s1.timing.advance with sinceRef := some 0 }).event .arrival none inp
      (s1.framePhases true) sch)
  else .next s

/-- R9, R15: LOCKED left for HOLDOVER. -/
def Timing.loseLock (t : Timing) : Timing :=
  { t with state := .holdover, lockLosses := satInc t.lockLosses, holdoverCount := 0, returnRun := false }

/-- EARLY_EDGE (R9). The early edge is not a reference edge, and the frame in progress goes on.
Its lock loss comes after the requests of the arrival before it (R175; DEDUCED, assumption 28). -/
def execEarlyEdge (pos : Nat) (sch : Sched) (s : State) : Host.Outcome State Fault Refusal :=
  let s1 := s.finish
  let t := s1.timing
  if t.state = .locked ∧ 0 < pos ∧ pos < t.format.spacing then
    .next ((s1.setTiming { t.loseLock with sinceRef := some pos }).markRestart.bareEvent
      (some ⟨.holdover, .fsyncEarly, s1.now⟩) [.entryNotice, .entryParser] sch)
  else .next s

/-- FSYNC_MISSING (R9): the entry to HOLDOVER, then the first emitted frame. -/
def execFsyncMissing (inp : FrameIn) (sch : Sched) (s : State) : Host.Outcome State Fault Refusal :=
  let s1 := s.finish
  let t := s1.timing
  if t.state = .locked then
    .next ((s1.setTiming { t.loseLock.advance with holdoverCount := 1, sinceRef := some t.format.spacing }).markRestart.event
      .emitted (some ⟨.holdover, .fsyncMissing, s1.now⟩) inp
      ([.entryNotice, .entryParser] ++ s1.framePhases false) sch)
  else .next s

/-- EMITTED_FRAME (R10): up to the sixteenth, and not the edge that completes a return. -/
def execEmittedFrame (edge : Bool) (inp : FrameIn) (sch : Sched) (s : State) : Host.Outcome State Fault Refusal :=
  let s1 := s.finish
  let t := s1.timing
  if t.state = .holdover ∧ t.holdoverCount < Config.holdoverFrames ∧ (edge && t.returnRun) = false then
    .next ((s1.setTiming { t.advance with
        holdoverCount := t.holdoverCount + 1, returnRun := edge
        sinceRef := some (if edge then 0 else t.nextPoint) }).event
      .emitted none inp (s1.framePhases false) sch)
  else .next s

/-- HOLDOVER_RETURN (R10): LOCKED, then the point's frame arrival. -/
def execHoldoverReturn (inp : FrameIn) (sch : Sched) (s : State) : Host.Outcome State Fault Refusal :=
  let s1 := s.finish
  let t := s1.timing
  if t.state = .holdover ∧ t.returnRun = true then
    .next ((s1.setTiming t.lock.advance).event .arrival (some ⟨.locked, .returned, s1.now⟩) inp
      (.entryNotice :: s1.framePhases true) sch)
  else .next s

/-- R10: CONFIRM entered from HOLDOVER with this edge as the first. -/
def Timing.toConfirm (t : Timing) : Timing :=
  { t with
    state := .confirm, confirmCount := some 1, sinceRef := some 0, holdoverCount := 0, returnRun := false }

/-- OFF_POSITION_EDGE (R10): an edge between two expected points. -/
def execOffPositionEdge (pos : Nat) (sch : Sched) (s : State) : Host.Outcome State Fault Refusal :=
  let s1 := s.finish
  let t := s1.timing
  if t.state = .holdover ∧ t.sinceRef.getD 0 < pos ∧ pos < t.nextPoint then
    .next ((s1.setTiming t.toConfirm).releaseLanes.bareEvent none s1.closePhases sch)
  else .next s

/-- HOLDOVER_EXPIRED (R10). An edge at the point is taken by SEARCH as its first edge. -/
def execHoldoverExpired (edge : Bool) (sch : Sched) (s : State) : Host.Outcome State Fault Refusal :=
  let s1 := s.finish
  let t := s1.timing
  if t.state = .holdover ∧ Config.holdoverFrames ≤ t.holdoverCount ∧ (edge && t.returnRun) = false then
    let s2 := s1.enterSearch
    .next ((if edge then s2.setTiming s2.timing.searchEdge else s2).bareEvent
      (some ⟨.search, .holdoverExpired, s1.now⟩) [.entryNotice, .entryParser] sch)
  else .next s

/-- R11: absence declared outside SEARCH. From LOCKED it is a lock loss too (R15). -/
def Timing.loseClock (t : Timing) : Timing :=
  { t with
    clockAbsent := true
    lockLosses := if t.state = .locked then satInc t.lockLosses else t.lockLosses }

/-- CLOCK_ABSENT (R11). While the bit clock is absent already, no further absence is declared. -/
def execClockAbsent (sch : Sched) (s : State) : Host.Outcome State Fault Refusal :=
  let s1 := s.finish
  let t := s1.timing
  if t.clockAbsent then .next s
  else if t.state = .search then .next (s1.setTiming { t with clockAbsent := true })
  else
    .next ((s1.setTiming t.loseClock).enterSearch.bareEvent (some ⟨.search, .clockAbsent, s1.now⟩)
      ([.entryNotice, .entryParser] ++ s1.closePhases) sch)

/-- BCLK_RETURN (R11): clock-absent is cleared; the unit waits in SEARCH. -/
def execBclkReturn (s : State) : Host.Outcome State Fault Refusal :=
  let s1 := s.finish
  if s1.timing.clockAbsent then .next (s1.setTiming { s1.timing with clockAbsent := false })
  else .next s

end Sys2Proof.Machine
end

