-- ==== Sys2Proof/Machine/Dispatch.lean ====
section
/-! DEFINITION. One arm per command: each calls the command's own meaning. -/

namespace Sys2Proof.Machine

def exec (i : Instr) (s : State) : Host.Outcome State Fault Refusal :=
  match i with
  | .pinReset => Sys2Proof.Machine.execPinReset s
  | .searchEdge => Sys2Proof.Machine.execSearchEdge s
  | .confirmEdge spacing sch => Sys2Proof.Machine.execConfirmEdge spacing sch s
  | .frameArrival inp sch => Sys2Proof.Machine.execFrameArrival inp sch s
  | .earlyEdge pos sch => Sys2Proof.Machine.execEarlyEdge pos sch s
  | .fsyncMissing inp sch => Sys2Proof.Machine.execFsyncMissing inp sch s
  | .emittedFrame edge inp sch => Sys2Proof.Machine.execEmittedFrame edge inp sch s
  | .holdoverReturn inp sch => Sys2Proof.Machine.execHoldoverReturn inp sch s
  | .offPositionEdge pos sch => Sys2Proof.Machine.execOffPositionEdge pos sch s
  | .holdoverExpired edge sch => Sys2Proof.Machine.execHoldoverExpired edge sch s
  | .clockAbsent sch => Sys2Proof.Machine.execClockAbsent sch s
  | .bclkReturn => Sys2Proof.Machine.execBclkReturn s
  | .abandonGap => Sys2Proof.Machine.execAbandonGap s
  | .requestMessage => Sys2Proof.Machine.execRequestMessage s
  | .linkResync => Sys2Proof.Machine.execLinkResync s
  | .moveLinkEffect => Sys2Proof.Machine.execMoveLinkEffect s
  | .formatChangeEffect => Sys2Proof.Machine.execFormatChangeEffect s
  | .resetFullEffect => Sys2Proof.Machine.execResetFullEffect s
  | .commitApply => Sys2Proof.Machine.execCommitApply s
  | .commitTimeout => Sys2Proof.Machine.execCommitTimeout s
  | .groupExpiry g => Sys2Proof.Machine.execGroupExpiry g s
  | .captureFull => Sys2Proof.Machine.execCaptureFull s
  | .capturePostDone => Sys2Proof.Machine.execCapturePostDone s
  | .playerNaturalEnd p => Sys2Proof.Machine.execPlayerNaturalEnd p s
  | .identify r => Sys2Proof.Machine.execIdentify r s
  | .readStatus r => Sys2Proof.Machine.execReadStatus r s
  | .resetRouting tag hdrReserved => Sys2Proof.Machine.execResetRouting tag hdrReserved s
  | .resetFull tag hdrReserved => Sys2Proof.Machine.execResetFull tag hdrReserved s
  | .setNoticeMask r => Sys2Proof.Machine.execSetNoticeMask r s
  | .moveLink r => Sys2Proof.Machine.execMoveLink r s
  | .setFrameFormat r => Sys2Proof.Machine.execSetFrameFormat r s
  | .setLanes r => Sys2Proof.Machine.execSetLanes r s
  | .stageRoute r => Sys2Proof.Machine.execStageRoute r s
  | .stageClear r => Sys2Proof.Machine.execStageClear r s
  | .stageFromActive r => Sys2Proof.Machine.execStageFromActive r s
  | .readRoute r => Sys2Proof.Machine.execReadRoute r s
  | .commit r => Sys2Proof.Machine.execCommit r s
  | .cancelCommit r => Sys2Proof.Machine.execCancelCommit r s
  | .setGain r => Sys2Proof.Machine.execSetGain r s
  | .setGroup r => Sys2Proof.Machine.execSetGroup r s
  | .groupMute r => Sys2Proof.Machine.execGroupMute r s
  | .readGroups r => Sys2Proof.Machine.execReadGroups r s
  | .readClips r => Sys2Proof.Machine.execReadClips r s
  | .defineRegion r => Sys2Proof.Machine.execDefineRegion r s
  | .releaseRegion r => Sys2Proof.Machine.execReleaseRegion r s
  | .writeRegion r => Sys2Proof.Machine.execWriteRegion r s
  | .readRegion r => Sys2Proof.Machine.execReadRegion r s
  | .readRegions r => Sys2Proof.Machine.execReadRegions r s
  | .startCapture r => Sys2Proof.Machine.execStartCapture r s
  | .stopCapture r => Sys2Proof.Machine.execStopCapture r s
  | .readCapture r => Sys2Proof.Machine.execReadCapture r s
  | .startPlayer r => Sys2Proof.Machine.execStartPlayer r s
  | .stopPlayer r => Sys2Proof.Machine.execStopPlayer r s
  | .readPlayers r => Sys2Proof.Machine.execReadPlayers r s
  | .setWatch r => Sys2Proof.Machine.execSetWatch r s
  | .clearWatch r => Sys2Proof.Machine.execClearWatch r s
  | .readWatches r => Sys2Proof.Machine.execReadWatches r s

end Sys2Proof.Machine
end

