-- ==== Sys2Proof/Safety.lean ====
section
/-! DEFINITION. What a safe state of the part is: the laws the manual states of its state as a whole, block by block, in
the terms the statements use. Each law is a plain predicate of one state. -/

namespace Sys2Proof.Machine

/-! ## Timing and the output lanes -/

/-- What each timing state says of what the unit holds (1.2, R5, R7, R10, R11): a reference edge outside SEARCH alone, a
confirm count of 1 or 2 in CONFIRM alone, a holdover count up to 16 and a return run in HOLDOVER alone, clock-absent in
SEARCH alone. -/
abbrev Timing.legal (t : Timing) : Prop :=
  (t.sinceRef = none ↔ t.state = .search) ∧
  (t.state = .confirm → t.confirmCount = some 1 ∨ t.confirmCount = some 2) ∧
  (t.state ≠ .confirm → t.confirmCount = none) ∧
  (t.state ≠ .holdover → t.holdoverCount = 0 ∧ t.returnRun = false) ∧
  t.holdoverCount ≤ Config.holdoverFrames ∧
  (t.clockAbsent = true → t.state = .search)

/-- A legal timing, and in SEARCH and CONFIRM every output slot released and nothing in flight (R13, R110). -/
abbrev State.timingLaw (s : State) : Prop :=
  s.timing.legal ∧
  (s.timing.state.driving = false → s.mixer.flight = none ∧ ∀ i : Slot, s.pins.row i = none)

/-! ## The link slots -/

/-- The management slots are present and on enabled lanes (R22). -/
abbrev State.linkPresent (s : State) (l : Link) (f : Format) : Prop :=
  f.present l.inb = true ∧ f.present l.outb = true ∧
  laneOn s.timing.inLanes l.inb = true ∧ laneOn s.timing.outLanes l.outb = true

/-- Nothing routes, watches or captures the management slots of a link assignment: no contributor names the inbound slot
and the outbound slot's entry is RELEASED, in both tables (R64); no armed watch and no running capture has one of them
as its subject (R136, R172). -/
abbrev State.linkUnused (s : State) (l : Link) : Prop :=
  (∀ i : Slot, ((s.staged.row i).list.any fun c => c.source == l.inb.setWidth 7) = false) ∧
  (∀ i : Slot, ∀ k : BitVec 2, ((s.active.row i).pos.row k).names (l.inb.setWidth 7) = false) ∧
  (s.staged.row l.outb).drive = .released ∧ (s.active.row l.outb).drive = .released ∧
  s.watched (.input l.inb) = false ∧ s.watched (.output l.outb) = false ∧
  s.captured (.input l.inb) = false ∧ s.captured (.output l.outb) = false

/-- The link assignment the Executor's fenced request is about to bring, if it moves the link. -/
def Executor.nextLink : Executor → Option Link
  | .fenced _ (.moveLink inb outb) _ => some ⟨inb, outb⟩
  | _ => none

/-- The frame format the Executor's fenced request is about to bring, if it changes the format. -/
def Executor.nextFormat : Executor → Option Format
  | .fenced _ (.setFormat f) _ => some f
  | _ => none

/-- The management slots stay usable: those in force, and those or the format that a fenced request will bring. -/
abbrev State.linkLaw (s : State) : Prop :=
  s.linkPresent s.link s.timing.format ∧ s.linkUnused s.link ∧
  (∀ l ∈ s.executor.nextLink, s.linkPresent l s.timing.format ∧ s.linkUnused l) ∧
  (∀ f ∈ s.executor.nextFormat, s.linkPresent s.link f)

/-! ## The parser and the notices -/

/-- The parser's message and its two runs stay within their bounds (2.3, R25, R27, R33). -/
abbrev Parser.legal (p : Parser) : Prop :=
  p.gap ≤ Config.gapLimit ∧ p.breakRun ≤ 3 ∧
  ∀ m ∈ p.rx, m.words.length ≤ Config.bodyWords ∧ Header.origin m.header = 0

/-- The values of a CLIP notice: at most 32 distinct slots, an overflow of at most 127 (R109). -/
def NoticeVal.clipLegal : NoticeVal → Bool
  | .clip _ slots overflow =>
    decide (slots.length ≤ Config.clipListSize) && decide slots.Nodup && decide (overflow ≤ 127)
  | _ => true

/-- The Notice Queue (R51, R55, R109): at most 16 notices, no two of the same kind and subject, each of an enabled kind and
with a count of at least 1. -/
abbrev NoticeSide.legal (n : NoticeSide) : Prop :=
  n.queue.length ≤ Config.noticeQueueSize ∧
  (n.queue.map fun q => (q.val.kind, q.val.subject)).Nodup ∧
  ∀ q ∈ n.queue, maskEnables n.mask q = true ∧ 1 ≤ q.count.toNat ∧ q.val.clipLegal = true

/-- The parser and the notice side together. -/
abbrev State.inboundLaw (s : State) : Prop := s.parser.legal ∧ s.notices.legal

/-! ## Requests and their places -/

/-- The tags of the live requests, one for each place that stands for one (R38, R46). -/
def ReplyQueue.liveTags (r : ReplyQueue) : List Tag :=
  r.reserved.map (·.tag) ++ (r.ready.filter fun p => !p.refusal).map (·.tag)

/-- What the RESERVED places belong to: the requests of the Command Queue and the pending COMMIT, code 12 (R46). -/
def State.owners (s : State) : List (Tag × Code) :=
  (s.cmdq.map fun q => (q.tag, q.code)) ++ (s.commit.map fun c => (c.tag, (12 : Code))).toList

/-- R44: a fence whose trailer is still to come has its READY reply, with DONE. -/
def State.fenceHeld (s : State) : Bool :=
  match s.executor with
  | .fenced tag _ false => s.replies.ready.any fun p => p.tag == tag && !p.refusal && p.status == .done
  | .idle | .fenced _ _ true => true

/-- The Command Queue holds at most 4, the Reply Queue at most 8; each RESERVED place belongs to one queued request or the
pending COMMIT and each of those owns one; no two live requests carry the same tag and none carries tag 0; a fence whose
trailer is still to come has its READY reply (R38, R40, R43, R44, R46). -/
abbrev State.queueLaw (s : State) : Prop :=
  s.cmdq.length ≤ Config.commandQueueSize ∧
  s.replies.reserved.length + s.replies.ready.length ≤ Config.replyPlaces ∧
  (s.replies.reserved.map fun p => (p.tag, p.code)).Perm s.owners ∧
  s.replies.liveTags.Nodup ∧ (0 : Tag) ∉ s.replies.liveTags ∧ s.fenceHeld = true

/-! ## Ramps -/

/-- R62: a position's state follows from its effective target. -/
def Position.follows (muted : Bool) : Position → Bool
  | .empty | .draining .. => true
  | .steady c cur => cur == effective muted c
  | .ramping c cur => cur != effective muted c

/-- R85, R86, R87, R93: a group record agrees with the Active Table. -/
abbrev Group.legal (r : Group) (movers : Nat) : Prop :=
  (r.step = 1 ∨ r.step = 2 ∨ r.step = 4 ∨ r.step = 8) ∧ r.interval ≤ 64 ∧ r.moving = movers ∧
  r.countdown ≤ r.interval ∧ (r.countdown = 0 ↔ r.moving = 0)

/-- Every group record agrees with the table, and every position's state follows from its effective target. -/
abbrev State.rampLaw (s : State) : Prop :=
  (∀ g : GroupNo, (s.groups.row g).legal (movers g s.active)) ∧
  ∀ i : Slot, ∀ k : BitVec 2,
    ((s.active.row i).pos.row k).follows (s.groups.row (s.active.row i).group).muted = true

/-! ## Regions and their users -/

/-- The players that play a region. -/
def State.playersOf (s : State) (id : RegionNo) : Nat :=
  s.players.toList.countP fun p => p.playing && p.region == some id

/-- R120, R121: a region record lies in the memory, and its state says who uses it. -/
abbrev State.regionLegal (s : State) (id : RegionNo) (r : Region) : Prop :=
  1 ≤ r.length ∧ r.base + r.length ≤ Config.memoryWords ∧ r.valid ≤ r.length ∧ r.oldest < r.length ∧
  r.use.users = s.playersOf id ∧
  (r.use = .capturing ↔ s.capture.state ≠ .idle ∧ s.capture.region = some id) ∧
  r.use ≠ .playing 0

/-- R134: what a running capture holds, against the region it fills. -/
abbrev Capture.runs (k : Capture) (r : Region) : Prop :=
  k.writeOffset < r.length ∧ k.written ≤ r.length ∧ k.subject.isSome = true ∧ k.mode.isSome = true ∧
  (k.state = .post → k.mode = some .ring)

/-- Every defined region is legal, no two overlap, and a running capture or player holds a defined region (R120, R121,
R130, R131). -/
abbrev State.regionLaw (s : State) : Prop :=
  (∀ id : RegionNo, ∀ r ∈ s.regions.row id, s.regionLegal id r) ∧
  (∀ a b : RegionNo, a ≠ b → ∀ r ∈ s.regions.row a, ∀ q ∈ s.regions.row b, Region.overlaps r.base r.length q = false) ∧
  (s.capture.state ≠ .idle → ∃ r ∈ s.captureRegion, s.capture.runs r) ∧
  ∀ p : PlayerNo, (s.players.row p).playing = true → (s.playerRegion p).isSome = true

/-! ## The memory -/

/-- The sample memory is in canonical form. -/
abbrev State.memoryLaw (s : State) : Prop := s.memory.wf = true

/-! ## A request that is taken at once -/

/-- A request message with this tag passes the last trailer checks and is taken by the Executor in the event of its
acceptance: the tag is neither 0 nor live, a place is FREE, the Executor is IDLE and nothing waits before it (R28, R41,
R47). Where the Executor is FENCED the request waits in the Command Queue (R41, R44). -/
abbrev State.mayTake (s : State) (tag : Tag) : Prop :=
  tag ≠ 0 ∧ s.replies.live tag = false ∧ s.replies.free ≠ 0 ∧ s.executor = .idle ∧ s.cmdq = []

/-- No natural end of the open frame is still to be posted (R156). -/
abbrev State.endsPosted (s : State) : Prop := ∀ c ∈ s.frame, ∀ p : PlayerNo, c.ended.row p = none

/-- A request message with this tag is taken in the event of its acceptance, in the state as it stands. Where a natural end is
still to be posted, the taking posts it first (R158, `FencedRequestsWait`). -/
abbrev State.takesAtOnce (s : State) (tag : Tag) : Prop := s.mayTake tag ∧ s.endsPosted

/-- The state once a live request's reply has joined the ready order (R47, R48). -/
def State.answered (s : State) (tag : Tag) (st : Status) (body : List Payload) : State :=
  s.setReplies { s.replies with ready := s.replies.ready ++ [⟨tag, st, body, false⟩] }

/-- The state once an accepted request has its RESERVED place (R46, R47). -/
def State.reserved (s : State) (tag : Tag) (code : Code) : State :=
  s.setReplies { s.replies with reserved := s.replies.reserved ++ [⟨tag, code⟩] }

/-! ## A timing event and its record -/

/-- What a declared frame hands over (R3, R8, R10, R22): each input slot's 24 bits or zero, all 32 bits of the management
inbound slot, and nothing yet of the players, the output frame and the watches. -/
def State.handOver (s : State) (kind : FrameKind) (entry : Option Entry) (inp : FrameIn) (todo : List Phase) : FrameCtx :=
  { kind := kind, entry := entry
    inputs := Table.tab fun i =>
      if laneOn s.timing.inLanes i && s.timing.format.present i then (inp.lanes.row i).extractLsb' 8 24 else 0
    word := inp.lanes.row s.link.inb, given := Table.tab fun _ => 0, ended := Table.tab fun _ => none
    emitted := Table.tab fun _ => 0, alerts := [], todo := todo }

/-- The open event once phase `p` has been taken off the phases to come. -/
def State.took (s : State) (c : FrameCtx) (p : Phase) : State := s.setFrame (some { c with todo := c.todo.erase p })

/-- Phase `p` of the open event is still to come, and nothing that must precede it is. -/
abbrev State.atPhase (s : State) (c : FrameCtx) (p : Phase) : Prop :=
  s.frame = some c ∧ p ∈ c.todo ∧ ∀ q ∈ c.todo, q.mustPrecede p = false

/-! ## What a loss of lock and an event leave -/

/-- R32: a message in progress is marked to be sent again. -/
abbrev Composer.cut (k : Composer) : Composer := if k.message = none then k else { k with restart := true }

/-- R29, R30: the parser in HUNT with its runs at 0, a message it was receiving counted as abandoned. -/
abbrev Parser.lost (p : Parser) : Parser :=
  { p with rx := none, gap := 0, breakRun := 0, abandoned := if p.rx = none then p.abandoned else satInc p.abandoned }

/-- R30: INBOUND_ABANDONED posted for the message the parser was receiving, if there is one. -/
abbrev Parser.lostNotice (p : Parser) (reason : Reason) (frame : FrameNo) (n : NoticeSide) : NoticeSide :=
  match p.rx with
  | none => n
  | some m => n.post (.inboundAbandoned frame reason (Header.tag m.header) m.words.length)

/-- R96: the count of group `g`, whose record was `r`, falls from above 0 to 0 as the Active Table goes from `old` to `new`,
and one of its movers stands still after it in an entry still in the group. -/
abbrev Group.settles (g : GroupNo) (r : Group) (old new : Table 6 Active) : Prop :=
  r.moving ≠ 0 ∧ movers g new = 0 ∧ ∃ (i : Slot) (k : BitVec 2), (old.row i).group = g ∧ (new.row i).group = g ∧
    ((old.row i).pos.row k).moving = true ∧ ((new.row i).pos.row k).moving = false

/-- R86, R96: what an event that brought `s` to `t` leaves of the moving counts. `before` are the group records it found,
with the flags it gave them. Each count is the number of movers; a rise from 0 sets the countdown to the interval; a fall to
0 clears it, and posts RAMP_DONE where the group settles. (The order of the postings of several groups is assumption 10.) -/
abbrev State.countsFollow (s t : State) (before : Table 3 Group) : Prop :=
  (∀ g : GroupNo, t.groups.row g = { before.row g with
    moving := movers g t.active
    countdown :=
      if (before.row g).moving = 0 then
        if movers g t.active = 0 then (before.row g).countdown else (before.row g).interval
      else if movers g t.active = 0 then 0 else (before.row g).countdown }) ∧
  ((∀ g : GroupNo, ¬ Group.settles g (before.row g) s.active t.active) → t.notices = s.notices) ∧
  ∀ g : GroupNo, Group.settles g (before.row g) s.active t.active →
    (∀ h : GroupNo, Group.settles h (before.row h) s.active t.active → h = g) →
    t.notices = s.notices.post (.rampDone g s.now)

/-- R87: what stays of an open event's parts where counts rose from 0: the step of each group whose count rose is taken
away, and nothing else of the event changes. -/
def FrameCtx.lessRisen (c : FrameCtx) (before : Table 3 Group) (new : Table 6 Active) : FrameCtx :=
  { c with todo := c.todo.filter fun p => match p with
    | .group g => !((before.row g).moving == 0 && movers g new != 0)
    | _ => true }

/-- What is left open of an event: nothing where no part is to come. -/
def FrameCtx.left (c : FrameCtx) : Option FrameCtx := if c.todo = [] then none else some c

/-- What is left open of an event once part `p` has been taken. -/
abbrev FrameCtx.without (c : FrameCtx) (p : Phase) : Option FrameCtx := { c with todo := c.todo.erase p }.left

/-! ## A safe state -/

/-- Every law together. -/
abbrev State.safe (s : State) : Prop :=
  s.timingLaw ∧ s.linkLaw ∧ s.inboundLaw ∧ s.queueLaw ∧ s.rampLaw ∧ s.regionLaw ∧ s.memoryLaw

end Sys2Proof.Machine
end

