-- ==== Sys2Proof/Certificates/Slice0/Obligations.lean ====
section
/-! DEFINITION. The statements about the model. Each says in its docstring which rule of the manual it formalises. In the
statements about timing events, `s.finish` is the state once what was still open of the event before has been taken; with
no event open it is `s` itself (`StepTakesFrontCommand`). -/

open Sys2Proof Sys2Proof.Machine

/-! ## The queue of commands, and reset -/

/-- The row's own framing: one step takes the command at the front of the queue and runs it with the queue's rest. On an
empty queue the block takes what is still open of the last timing event (DESIGN CHOICE, assumption 2), which is nothing
where no event is open. -/
def Obligations.StepTakesFrontCommand : Prop :=
  (∀ (c : Instr) (rest : List Instr) (s : State), s.pending = c :: rest → step s = exec c (s.setPending rest)) ∧
  (∀ s : State, s.pending = [] → step s = .next s.finish) ∧
  (∀ s : State, s.frame = none → s.finish = s)

/-- R2, R4, R5, R12, R15, R22, R23, R40, R41, R49, R56, R57, R59, R61, R79, R85, R117, R120, R123, R134, R152, R162: what
pin reset leaves, block by block. -/
def Obligations.ResetLeavesEveryBlock : Prop :=
  State.reset.timing =
    { state := .search, format := ⟨true, true, .activeHigh⟩, inLanes := 0b1111, outLanes := 0b0001, sinceRef := none
      confirmCount := none, holdoverCount := 0, returnRun := false, clockAbsent := false, frameNo := 0
      lockLosses := 0, searchEntries := 0 } ∧
  State.reset.link = ⟨7, 7⟩ ∧
  State.reset.parser = ⟨none, 0, 0, 0, 0, 0, 0⟩ ∧
  State.reset.cmdq = [] ∧ State.reset.executor = .idle ∧ State.reset.replies = ⟨[], []⟩ ∧
  State.reset.notices = ⟨[], 0x77, 0, 0⟩ ∧ State.reset.composer = ⟨none, false, false⟩ ∧
  (∀ i : Slot, State.reset.pins.row i = none) ∧
  (∀ i : Slot, State.reset.staged.row i = ⟨.released, .live, 0, [], false⟩) ∧
  (∀ i : Slot, (State.reset.active.row i).drive = .released ∧ (State.reset.active.row i).hold = .live ∧
    (State.reset.active.row i).group = 0 ∧ ∀ k : BitVec 2, (State.reset.active.row i).pos.row k = .empty) ∧
  State.reset.commit = none ∧
  (∀ g : GroupNo, State.reset.groups.row g = ⟨2, 1, false, 0, 0⟩) ∧
  (∀ i : Slot, State.reset.mixer.clips.row i = 0 ∧ State.reset.mixer.lastEmitted.row i = 0) ∧
  State.reset.mixer.flight = none ∧
  (∀ id : RegionNo, State.reset.regions.row id = none) ∧
  State.reset.capture =
    { state := .idle, region := none, subject := none, mode := none, trigger := none, postCount := 0
      writeOffset := 0, written := 0, postRemaining := 0, triggerOffset := none, holdoverFrames := 0
      startFrame := none, endReason := none } ∧
  (∀ p : PlayerNo, State.reset.players.row p = ⟨false, none, 0, 0, 0, 0⟩) ∧
  ∀ w : WatchNo, State.reset.watches.row w = ⟨.disarmed, none, 0⟩

/-- R5, R119: PIN_RESET completes in every state and leaves the machine of reset; a memory word that nothing has written
since holds a value the model leaves free (DESIGN CHOICE, assumption 5). The commands that wait outside go on waiting. -/
def Obligations.PinResetCompletes : Prop :=
  ∀ s : State, ∃ t, exec .pinReset s = .next t ∧
    t = { State.reset with pending := s.pending, powerUps := s.powerUps + 1 } ∧
    ∀ a : Nat, t.word a = Config.unknownWord (s.powerUps + 1) a

/-! ## Laws that every step keeps -/

/-- The machine of reset meets every law of the part's state. -/
def Obligations.ResetIsSafe : Prop := State.reset.safe

/-- R5, R7, R10, R11, R13, R110: every step keeps the timing unit's record legal, and keeps every output slot released and
nothing in flight in SEARCH and CONFIRM. -/
def Obligations.TimingLawIsKept : Prop :=
  ∀ s t : State, s.timingLaw → step s = .next t → t.timingLaw

/-- R22, R64, R172: every step keeps the management slots present, on enabled lanes, out of the routing of both tables, and
out of the subjects of armed watches and running captures. -/
def Obligations.LinkLawIsKept : Prop :=
  ∀ s t : State, s.linkLaw → step s = .next t → t.linkLaw

/-- R25, R27, R33, R51, R55, R109: every step keeps the parser's bounds and the Notice Queue's: at most 16 notices, never
two of one kind and subject, each of an enabled kind, a CLIP list of at most 32 distinct slots. -/
def Obligations.InboundLawIsKept : Prop :=
  ∀ s t : State, s.inboundLaw → step s = .next t → t.inboundLaw

/-- R38, R40, R43, R44, R46: every step keeps the queue bounds, one RESERVED place for each queued request and for the
pending COMMIT, distinct tags of live requests, and the READY reply of a fence that waits for its trailer. -/
def Obligations.QueueLawIsKept : Prop :=
  ∀ s t : State, s.queueLaw → step s = .next t → t.queueLaw

/-- R62, R85, R86, R87, R93: every step keeps each moving count equal to the number of movers, a countdown exactly where
there are movers, no mover in a jump group, and each position's state following from its effective target. -/
def Obligations.RampLawIsKept : Prop :=
  ∀ s t : State, s.rampLaw → step s = .next t → t.rampLaw

/-- R120, R121, R130, R131: every step keeps each region in the memory, no two overlapping, its state the one its users
give it, and a running capture's offsets within its region. -/
def Obligations.RegionLawIsKept : Prop :=
  ∀ s t : State, s.regionLaw → step s = .next t → t.regionLaw

/-- The model's own form of the memory (R119, assumption 5): every step keeps the canonical list of written words. -/
def Obligations.MemoryFormIsKept : Prop :=
  ∀ s t : State, s.memoryLaw → step s = .next t → t.memoryLaw

/-- R12: no command changes the frame number but a frame arrival and an emitted frame, which add 1, and a pin reset, which
sets it to 0. -/
def Obligations.FrameNumberCountsDeclaredFrames : Prop :=
  ∀ (i : Instr) (s t : State), exec i s = .next t →
    t.now = s.now ∨
    (t.now = s.now + 1 ∧
      ((∃ inp sch, i = .frameArrival inp sch) ∨ (∃ inp sch, i = .fsyncMissing inp sch) ∨
        (∃ edge inp sch, i = .emittedFrame edge inp sch) ∨ ∃ inp sch, i = .holdoverReturn inp sch)) ∨
    (i = .pinReset ∧ t.now = 0)

/-- R119, R122, R126: a written memory word reads as it was written and no other word changes; a region's logical offset i
lies at its base plus the oldest offset plus i, modulo its length. The memory keeps its contents through every request but
WRITE REGION, through RESET and every read among them, and through every part of a timing event but the capture's store
and the requests taken there. -/
def Obligations.MemoryReadsBackAndIsKept : Prop :=
  (∀ (s : State) (a b : Nat) (v : Sample),
    (s.setMemory (s.memory.write a v)).word a = v ∧
    (b ≠ a → (s.setMemory (s.memory.write a v)).word b = s.word b)) ∧
  (∀ (r : Region) (i : Nat), 1 ≤ r.length → r.base + r.length ≤ 8192 →
    r.logical i = r.base + (r.oldest + i) % r.length) ∧
  (∀ (s : State) (q : Queued), q.code.toNat ≠ 21 →
    ∀ a : Nat, (s.complete q.tag (q.outcome s)).word a = s.word a) ∧
  ∀ (s : State) (p : Phase), p ≠ .capture → p ≠ .parser → p ≠ .drain → ∀ a : Nat, (s.runPhase p).word a = s.word a

/-! ## The Frame Timing Unit -/

/-- R2, R3, R6, R7, R11, R14: an edge in SEARCH, while BCLK runs, begins the confirmation; an edge in CONFIRM is judged
against the expected spacing: at any other spacing it restarts the check, at the expected one it is the second edge,
and the third enters LOCKED and posts FRAME_STATE, said with the output frame and the word that begin there still to
come (their place after the posting is the standing order, assumptions 3 and 15). The expected spacing is 512 bit
clocks in a 16-slot frame and 256 in an 8-slot frame, a position is present in the first or below 8, and the next
expected point of HOLDOVER is the first one after the count. That no edge falls in SEARCH while the bit clock is
absent is DEDUCED (assumption 16). -/
def Obligations.FramingIsAcquired : Prop :=
  (∀ (delay : Bool) (sense : Sense), Format.spacing ⟨true, delay, sense⟩ = 512 ∧ Format.spacing ⟨false, delay, sense⟩ = 256) ∧
  (∀ (f : Format) (i : Slot), f.present i = true ↔ f.sixteen = true ∨ i.toNat % 16 < 8) ∧
  (∀ (t : Timing) (n : Nat), t.sinceRef = some n →
    t.format.spacing ∣ t.nextPoint ∧ n < t.nextPoint ∧ t.nextPoint ≤ n + t.format.spacing) ∧
  ∀ s : State,
    (s.finish.timing.state = .search → s.finish.timing.clockAbsent = false →
      exec .searchEdge s = .next (s.finish.setTiming
        { s.finish.timing with state := .confirm, confirmCount := some 1, sinceRef := some 0 })) ∧
    (s.finish.timing.state = .confirm → ∀ (spacing : Nat) (sch : Sched),
      (spacing ≠ s.finish.timing.format.spacing →
        exec (.confirmEdge spacing sch) s = .next (s.finish.setTiming
          { s.finish.timing with confirmCount := some 1, sinceRef := some 0 })) ∧
      (spacing = s.finish.timing.format.spacing → s.finish.timing.confirmCount = some 1 →
        exec (.confirmEdge spacing sch) s = .next (s.finish.setTiming
          { s.finish.timing with confirmCount := some 2, sinceRef := some 0 })) ∧
      (spacing = s.finish.timing.format.spacing → s.finish.timing.confirmCount = some 2 →
        exec (.confirmEdge spacing ⟨[], 2⟩) s = .next { s.finish with
          timing := { s.finish.timing with
            state := .locked, confirmCount := none, sinceRef := some 0, holdoverCount := 0, returnRun := false }
          notices := s.finish.notices.post
            (.frameState s.finish.now .locked .confirmed s.finish.timing.clockAbsent)
          frame := some (s.finish.handOver .bare (some ⟨.locked, .confirmed, s.finish.now⟩) (FrameIn.ofList [])
            [.output, .word]) } ∧
        ∃ t, exec (.confirmEdge spacing sch) s = .next t ∧
          t.timing = { s.finish.timing with
            state := .locked, confirmCount := none, sinceRef := some 0, holdoverCount := 0, returnRun := false } ∧
          t.mixer.clips = s.finish.mixer.clips ∧
          t = { s.finish with
            timing := t.timing, mixer := t.mixer, pins := t.pins, notices := t.notices
            composer := t.composer, replies := t.replies, executor := t.executor, frame := t.frame }))

/-- R3, R8, R12, R17, R22, R37, R44, R50, R52, R105, R106, R110, R111, R138, R163, R175, R178, R179: in LOCKED an on-time edge
is a frame arrival. The frame number rises by one, the edge becomes the reference edge, and the frame, its number and its 64 input
slot values are handed to the other blocks: the first 24 bits of each slot on an enabled input lane, 0 elsewhere, and all
32 bits of the management inbound slot. Said of the event with all that the blocks do at it still to come (`keep` at 64 or
more), so that what is handed over stands in the open event. The parts of a frame arrival and of an emitted frame are
given one by one, with those of a fenced request's effect where the event closes its output frame. A command takes them in
the standing order, or in any order asked for that the table of `Phase.mustPrecede` allows, and every such order can be
asked for. The list of parts and the standing order are the model's own record (DESIGN CHOICE, assumptions 3 and 20). The table
holds what the rules order and these readings of the model: a fenced effect comes after its closing event, with the output
frame that begins there, and before the next word (DEDUCED, assumption 13); every part of the closing event, and
what it and the effect count, comes before a request that waited (DEDUCED, assumptions 28 and 32); the readers of a player's sample or of an emitted
value come after it is known also where they do not read it (DESIGN CHOICE, assumption 31). -/
def Obligations.FrameArrivalHandsOver : Prop :=
  let allowed (parts : List Phase) : Prop := parts.Pairwise fun p q => q.mustPrecede p = false
  (∀ (s : State) (inp : FrameIn) (first : List Phase) (keep : Nat), 64 ≤ keep → s.finish.timing.state = .locked →
    exec (.frameArrival inp ⟨first, keep⟩) s = .next
      ((s.finish.setTiming
          { s.finish.timing with frameNo := s.finish.timing.frameNo + 1, sinceRef := some 0 }).setFrame
        (some (s.finish.handOver .arrival none inp
          (Sched.order ⟨first, keep⟩ (s.finish.framePhases true)))))) ∧
  (∀ (s : State) (kind : FrameKind) (entry : Option Entry) (inp : FrameIn) (todo : List Phase),
    let c := s.handOver kind entry inp todo
    c.kind = kind ∧ c.entry = entry ∧ c.todo = todo ∧ c.word = inp.lanes.row s.link.inb ∧ c.alerts = [] ∧
    ∀ i : Slot, c.inputs.row i =
      if laneOn s.timing.inLanes i = true ∧ s.timing.format.present i = true then (inp.lanes.row i).extractLsb' 8 24
      else 0) ∧
  (∀ s : State,
    let begun : List Phase := [.group 0, .group 1, .group 2, .group 3, .group 4, .group 5, .group 6, .group 7, .commitTest,
      .player 0, .playerNotice 0, .player 1, .playerNotice 1, .output, .mixer]
    let watches : List Phase := [.watch 0, .watch 1, .watch 2, .watch 3, .watch 4, .watch 5, .watch 6, .watch 7, .watch 8,
      .watch 9, .watch 10, .watch 11, .watch 12, .watch 13, .watch 14, .watch 15]
    let effect : List Phase := [.effect, .effectNotice, .effectParser, .drain, .drain, .drain, .drain]
    (s.closing = true ↔ ∃ tag eff, s.executor = .fenced tag eff true) ∧
    (s.closing = false →
      s.framePhases true = begun ++ watches ++ [.capture, .word, .parser] ∧
      s.framePhases false = begun ++ [.capture, .word]) ∧
    (s.closing = true →
      s.framePhases true = begun ++ watches ++ [.capture, .parser] ++ effect ++ [.word] ∧
      s.framePhases false = begun ++ [.capture] ++ effect ++ [.word]) ∧
    ∀ arrival : Bool, allowed ([.entryNotice, .entryParser] ++ s.framePhases arrival)) ∧
  (∀ (parts first : List Phase) (keep : Nat), allowed parts →
    Sched.order ⟨[], keep⟩ parts = parts ∧
    (Sched.order ⟨first, keep⟩ parts).Perm parts ∧ allowed (Sched.order ⟨first, keep⟩ parts) ∧
    ∀ order : List Phase, order.Perm parts → allowed order → Sched.order ⟨order, keep⟩ parts = order) ∧
  -- the orders the model keeps: those that rules fix, with the readings of assumptions 13, 28, 31 and 32
  ∀ q p : Phase, q.mustPrecede p = true ↔
    (q ∈ [.entryNotice, .entryParser] ∧ p ∉ [.entryNotice, .entryParser, .word]) ∨
    (p = .mixer ∧ (q ∈ [.commitTest, .output] ∨ (∃ g, q = .group g) ∨ ∃ n, q = .player n)) ∨
    ((∃ w, p = .watch w) ∧ (q = .output ∨ ∃ n, q = .player n)) ∨
    (p = .capture ∧ (q = .output ∨ (∃ n, q = .player n) ∨ ∃ w, q = .watch w)) ∨
    (∃ n, q = .player n ∧ p = .playerNotice n) ∨
    (p = .effect ∧ q ∉ [.effect, .effectNotice, .effectParser, .drain, .word]) ∨
    (p ∈ [.effectNotice, .effectParser] ∧ q ∉ [.effectNotice, .effectParser, .drain, .word]) ∨
    (p = .drain ∧ q ∉ [.effectParser, .drain, .word]) ∨
    (q = .effect ∧ p = .word)

/-- R9, R10, R14, R29, R32: what the expected points of HOLDOVER declare. A missing edge in LOCKED enters HOLDOVER, counts
a lock loss and declares the first emitted frame; an expected point in HOLDOVER declares an emitted frame, up to the
sixteenth; the second consecutive on-time edge enters LOCKED and declares a frame arrival. Said, as in
`FrameArrivalHandsOver`, with all that the blocks do still to come, whose list is the model's own record (assumptions
3 and 20). Each entry posts its FRAME_STATE with the frame number before the point, and the loss of lock cuts the
parser's message and marks the composer's: said with the declared frame's own parts still to come, in the standing
order (DESIGN CHOICE, assumption 3). -/
def Obligations.HoldoverPointsHandOver : Prop :=
  (∀ (s : State) (inp : FrameIn),
    (s.finish.timing.state = .locked →
      exec (.fsyncMissing inp ⟨[], (s.finish.framePhases false).length⟩) s = .next { s.finish with
        timing := { s.finish.timing with
          state := .holdover, lockLosses := satInc s.finish.timing.lockLosses, returnRun := false
          frameNo := s.finish.timing.frameNo + 1, holdoverCount := 1
          sinceRef := some s.finish.timing.format.spacing }
        composer := s.finish.composer.cut, parser := s.finish.parser.lost
        notices := s.finish.parser.lostNotice .lockLost s.finish.now (s.finish.notices.post
          (.frameState s.finish.now .holdover .fsyncMissing s.finish.timing.clockAbsent))
        frame := some (s.finish.handOver .emitted (some ⟨.holdover, .fsyncMissing, s.finish.now⟩) inp
          (s.finish.framePhases false)) }) ∧
    (s.finish.timing.state = .holdover → s.finish.timing.returnRun = true →
      exec (.holdoverReturn inp ⟨[], (s.finish.framePhases true).length⟩) s = .next { s.finish with
        timing := { s.finish.timing with
          state := .locked, confirmCount := none, sinceRef := some 0, holdoverCount := 0, returnRun := false
          frameNo := s.finish.timing.frameNo + 1 }
        notices := s.finish.notices.post
          (.frameState s.finish.now .locked .returned s.finish.timing.clockAbsent)
        frame := some (s.finish.handOver .arrival (some ⟨.locked, .returned, s.finish.now⟩) inp
          (s.finish.framePhases true)) })) ∧
  ∀ (s : State) (inp : FrameIn) (first : List Phase) (keep : Nat), 64 ≤ keep →
    (s.finish.timing.state = .locked →
      exec (.fsyncMissing inp ⟨first, keep⟩) s = .next
        (((s.finish.setTiming
            { s.finish.timing with
              state := .holdover, lockLosses := satInc s.finish.timing.lockLosses, returnRun := false
              frameNo := s.finish.timing.frameNo + 1, holdoverCount := 1
              sinceRef := some s.finish.timing.format.spacing }).markRestart).setFrame
          (some (s.finish.handOver .emitted (some ⟨.holdover, .fsyncMissing, s.finish.now⟩) inp
            (Sched.order ⟨first, keep⟩ ([.entryNotice, .entryParser] ++ s.finish.framePhases false)))))) ∧
    (∀ edge : Bool, s.finish.timing.state = .holdover → s.finish.timing.holdoverCount < 16 →
      (edge = true → s.finish.timing.returnRun = false) →
      exec (.emittedFrame edge inp ⟨first, keep⟩) s = .next
        ((s.finish.setTiming
            { s.finish.timing with
              frameNo := s.finish.timing.frameNo + 1, holdoverCount := s.finish.timing.holdoverCount + 1
              returnRun := edge, sinceRef := some (if edge then 0 else s.finish.timing.nextPoint) }).setFrame
          (some (s.finish.handOver .emitted none inp
            (Sched.order ⟨first, keep⟩ (s.finish.framePhases false)))))) ∧
    (s.finish.timing.state = .holdover → s.finish.timing.returnRun = true →
      exec (.holdoverReturn inp ⟨first, keep⟩) s = .next
        ((s.finish.setTiming
            { s.finish.timing with
              state := .locked, confirmCount := none, sinceRef := some 0, holdoverCount := 0, returnRun := false
              frameNo := s.finish.timing.frameNo + 1 }).setFrame
          (some (s.finish.handOver .arrival (some ⟨.locked, .returned, s.finish.now⟩) inp
            (Sched.order ⟨first, keep⟩ (.entryNotice :: s.finish.framePhases true))))))

/-- R8, R9, R10, R12, R14, R22, R29, R31, R70, R87, R106, R110, R138, R153, R163: however the blocks' work at it is
ordered, each of the four commands that declare a frame completes in its state with the frame number one higher; with
nothing kept back the event is over, its parts taken one after another. What each part does is the frame step of its
block, which other statements give; the posting of an entry is FRAME_STATE, and the parser's part of an entry abandons
its message. A command for one part of the open event takes that part, or does nothing where it does not fall (DESIGN
CHOICE, assumption 4). The parts and their list are the model's record (assumptions 3 and 20). -/
def Obligations.DeclaredFramesComplete : Prop :=
  (∀ (s : State) (cmd : Sched → Instr) (inp : FrameIn),
    (cmd = .frameArrival inp ∧ s.finish.timing.state = .locked) ∨
    (cmd = .fsyncMissing inp ∧ s.finish.timing.state = .locked) ∨
    (∃ edge, cmd = .emittedFrame edge inp ∧ s.finish.timing.state = .holdover ∧
      s.finish.timing.holdoverCount < 16 ∧ (edge = true → s.finish.timing.returnRun = false)) ∨
    (cmd = .holdoverReturn inp ∧ s.finish.timing.state = .holdover ∧ s.finish.timing.returnRun = true) →
    (∀ sch : Sched, ∃ t, exec (cmd sch) s = .next t ∧ t.now = s.finish.now + 1 ∧ (sch.keep = 0 → t.frame = none)) ∧
    ∀ first : List Phase, ∃ t, exec (cmd ⟨first, 64⟩) s = .next t ∧ exec (cmd ⟨first, 0⟩) s = .next t.finish) ∧
  (∀ (s : State) (c : FrameCtx), s.frame = some c →
    (c.todo = [] → s.finish = s.setFrame none ∧ s.closeEvent = s.setFrame none) ∧
    ∀ (p : Phase) (rest : List Phase), c.todo = p :: rest →
      s.finish = ((s.setFrame (some { c with todo := rest })).runPhase p).finish ∧ s.closeEvent = s) ∧
  (∀ (s : State) (c : FrameCtx), s.frame = some c →
    (∀ g : GroupNo, s.runPhase (.group g) = s.groupStep g) ∧
    s.runPhase .commitTest = s.commitStep (c.kind == .arrival) ∧
    (∀ p : PlayerNo, s.runPhase (.player p) = s.playerStep p) ∧
    s.runPhase .output = s.beginOutput ∧ s.runPhase .mixer = s.mix c ∧
    (∀ w : WatchNo, s.runPhase (.watch w) = s.watchStep c w) ∧
    s.runPhase .capture = s.captureStep c ∧ s.runPhase .parser = s.parserWord c.word ∧
    s.runPhase .word = s.emitWord ∧
    ((∀ tag eff, s.executor ≠ .fenced tag eff true) → s.runPhase .effect = s) ∧
    (c.entry = none → ∀ p ∈ [Phase.entryNotice, .entryParser, .effectNotice, .effectParser], s.runPhase p = s) ∧
    ∀ e : Entry, c.entry = some e →
      (∀ p ∈ [Phase.entryNotice, .effectNotice],
        s.runPhase p = s.post (.frameState e.frame e.state e.cause s.timing.clockAbsent)) ∧
      ∀ p ∈ [Phase.entryParser, .effectParser],
        s.runPhase p = (s.setParser s.parser.lost).setNotices (s.parser.lostNotice .lockLost e.frame s.notices)) ∧
  ∀ (s : State) (c : FrameCtx) (i : Instr) (p : Phase), s.atPhase c p →
    (i, p) ∈ [(.abandonGap, .parser), (.requestMessage, .parser), (.linkResync, .parser), (.moveLinkEffect, .effect),
        (.formatChangeEffect, .effect), (.resetFullEffect, .effect), (.commitApply, .commitTest),
        (.commitTimeout, .commitTest), (.captureFull, .capture), (.capturePostDone, .capture)] ∨
      (∃ g, i = .groupExpiry g ∧ p = .group g) →
    exec i s = .next s ∨ exec i s = .next ((s.took c p).runPhase p).closeEvent

/-- R9, R14, R15, R29, R30, R32: an early edge in LOCKED enters HOLDOVER, counts a lock loss, is no reference edge and
declares no frame; the output lanes go on. Taken whole, it posts FRAME_STATE, abandons a message being received with
LOCK_LOST, counted and posted with its tag and the words stored, and marks a message in progress to be sent again. Section
2.7 leaves the order of the two postings open: FRAME_STATE first is the model's standing order (DESIGN CHOICE, assumption
3), and the other order is taken where the command asks for it. -/
def Obligations.EarlyEdgeEntersHoldover : Prop :=
  ∀ (s : State) (pos : Nat), s.finish.timing.state = .locked → 0 < pos → pos < s.finish.timing.format.spacing →
    let p := s.finish.parser
    let k := s.finish.composer
    let entry : NoticeVal := .frameState s.finish.now .holdover .fsyncEarly s.finish.timing.clockAbsent
    let abandon (n : NoticeSide) : NoticeSide :=
      match p.rx with
      | none => n
      | some m => n.post (.inboundAbandoned s.finish.now .lockLost (Header.tag m.header) m.words.length)
    let left (n : NoticeSide) : State := { s.finish with
      timing := { s.finish.timing with
        state := .holdover, lockLosses := satInc s.finish.timing.lockLosses, holdoverCount := 0, returnRun := false
        sinceRef := some pos }
      composer := if k.message = none then k else { k with restart := true }
      parser := { p with
        rx := none, gap := 0, breakRun := 0
        abandoned := if p.rx = none then p.abandoned else satInc p.abandoned }
      notices := n, frame := none }
    (∀ sch : Sched, ∃ t, exec (.earlyEdge pos sch) s = .next t ∧
      t = { left t.notices with parser := t.parser, frame := t.frame }) ∧
    exec (.earlyEdge pos {}) s = .next (left (abandon (s.finish.notices.post entry))) ∧
    exec (.earlyEdge pos ⟨[.entryParser], 0⟩) s = .next (left ((abandon s.finish.notices).post entry))

/-- R10, R13, R17, R37, R44, R110, R179: an edge away from an expected point of HOLDOVER enters CONFIRM with that edge as
the first, releases the lanes and discards what is in flight; no frame is declared and nothing is posted or counted. Where
the edge closes the output frame of a fenced reply's trailer, the effect comes next (`EffectsFollowTheirEvent`), and with
no request waiting the command taken whole leaves the Executor IDLE and the effect taken: the link moved; the format
adopted in SEARCH, FORMAT_CHANGE posted before a LOCK_LOST (the standing order: DESIGN CHOICE, assumption 3); or the part
reset. The list of parts still to come is the model's own record (assumptions 3 and 20). -/
def Obligations.OffPositionEdgeEntersConfirm : Prop :=
  ∀ (s : State) (pos : Nat), s.finish.timing.state = .holdover → s.finish.timing.sinceRef.getD 0 < pos →
    pos < s.finish.timing.nextPoint →
    let entered : State := { s.finish with
      timing := { s.finish.timing with
        state := .confirm, confirmCount := some 1, sinceRef := some 0, holdoverCount := 0, returnRun := false }
      pins := Table.tab fun _ => none, mixer := { s.finish.mixer with flight := none }, frame := none }
    (∀ sch : Sched, s.finish.closing = false → exec (.offPositionEdge pos sch) s = .next entered) ∧
    ∀ tag eff, s.finish.executor = .fenced tag eff true →
      (∃ t c, exec (.offPositionEdge pos ⟨[], 64⟩) s = .next t ∧ t = { entered with frame := some c } ∧
        c = s.finish.handOver .bare none (FrameIn.ofList [])
          [.effect, .effectNotice, .effectParser, .drain, .drain, .drain, .drain] ∧
        t.atPhase c .effect) ∧
      (s.finish.cmdq = [] → ∃ t, exec (.offPositionEdge pos {}) s = .next t ∧ t.executor = .idle ∧ t.frame = none ∧
        (∀ i : Slot, t.pins.row i = none) ∧ t.mixer.flight = none ∧
        (∀ inb outb, eff = .moveLink inb outb → t = { entered with
          link := ⟨inb, outb⟩, executor := .idle, parser := s.finish.parser.lost, pins := t.pins
          notices := s.finish.parser.lostNotice .linkMoved s.finish.now s.finish.notices }) ∧
        (∀ f, eff = .setFormat f → t = { entered with
          timing := { s.finish.timing with
            format := f, state := .search, sinceRef := none, confirmCount := none, holdoverCount := 0
            returnRun := false, searchEntries := satInc s.finish.timing.searchEntries }
          executor := .idle, composer := s.finish.composer.cut, parser := s.finish.parser.lost
          notices := s.finish.parser.lostNotice .lockLost s.finish.now (s.finish.notices.post
            (.frameState s.finish.now .search .formatChange s.finish.timing.clockAbsent)) }) ∧
        (eff = .resetFull → t.timing = { entered.timing with lockLosses := 0, searchEntries := 0 } ∧
          t.link = s.finish.link ∧ t.replies = ⟨[], []⟩ ∧ t.commit = none ∧ t.notices = ⟨[], 0x77, 0, 0⟩ ∧
          t.parser = ⟨none, 0, 0, 0, 0, 0, 0⟩))

/-- R10, R14, R15, R29, R32, R110: the expected point after the sixteenth emitted frame, with no return completed there, enters
SEARCH: Search Entries rises, the lanes are released, what is in flight is discarded, no frame is declared and FRAME_STATE
is posted, a message being received is abandoned and one being sent is marked (FRAME_STATE first is the standing order:
DESIGN CHOICE, assumption 3). An edge there is the first edge of a new confirmation. -/
def Obligations.HoldoverExpires : Prop :=
  ∀ (s : State) (edge : Bool), s.finish.timing.state = .holdover → 16 ≤ s.finish.timing.holdoverCount →
    (edge = true → s.finish.timing.returnRun = false) →
    (∀ sch : Sched, ∃ t, exec (.holdoverExpired edge sch) s = .next t ∧
      t.timing = { s.finish.timing with
        state := if edge then .confirm else .search, sinceRef := if edge then some 0 else none
        confirmCount := if edge then some 1 else none, holdoverCount := 0, returnRun := false
        searchEntries := satInc s.finish.timing.searchEntries } ∧
      (∀ i : Slot, t.pins.row i = none) ∧ t.mixer = { s.finish.mixer with flight := none } ∧
      t = { s.finish with
        timing := t.timing, pins := t.pins, mixer := t.mixer, composer := t.composer
        parser := t.parser, notices := t.notices, frame := t.frame }) ∧
    exec (.holdoverExpired edge {}) s = .next { s.finish with
      timing := { s.finish.timing with
        state := if edge then .confirm else .search, sinceRef := if edge then some 0 else none
        confirmCount := if edge then some 1 else none, holdoverCount := 0, returnRun := false
        searchEntries := satInc s.finish.timing.searchEntries }
      pins := Table.tab fun _ => none, mixer := { s.finish.mixer with flight := none }
      composer := s.finish.composer.cut, parser := s.finish.parser.lost
      notices := s.finish.parser.lostNotice .lockLost s.finish.now (s.finish.notices.post
        (.frameState s.finish.now .search .holdoverExpired s.finish.timing.clockAbsent))
      frame := none }

/-- R11, R14, R15, R17, R29, R32, R37, R44, R179: bit-clock absence, and the next BCLK edge. Outside SEARCH it enters SEARCH,
counts a search entry and, from LOCKED, a lock loss, releases the lanes, posts FRAME_STATE with clock-absent set, abandons
a message being received and marks one being sent (FRAME_STATE first is the standing order: DESIGN CHOICE, assumption 3); in
SEARCH it sets clock-absent alone; while it lasts it is not declared again, and the command then changes nothing (DESIGN
CHOICE, assumption 1). Where it closes the output frame of a fenced reply's trailer, the effect follows, and with no
request waiting the command taken whole leaves it taken: a new format is adopted with no further count or notice. The list
of parts still to come is the model's own record (assumptions 3 and 20). -/
def Obligations.BitClockAbsence : Prop :=
  ∀ s : State,
    let lost (f : Format) : Timing := { s.finish.timing with
      format := f, state := .search, sinceRef := none, confirmCount := none, holdoverCount := 0, returnRun := false
      clockAbsent := true, searchEntries := satInc s.finish.timing.searchEntries
      lockLosses := if s.finish.timing.state = .locked then satInc s.finish.timing.lockLosses
        else s.finish.timing.lockLosses }
    let entered : State := { s.finish with
      timing := lost s.finish.timing.format, pins := Table.tab fun _ => none
      mixer := { s.finish.mixer with flight := none }, composer := s.finish.composer.cut, frame := none }
    let reported : State := { entered with
      parser := s.finish.parser.lost
      notices := s.finish.parser.lostNotice .lockLost s.finish.now (s.finish.notices.post
        (.frameState s.finish.now .search .clockAbsent true)) }
    (∀ sch : Sched, s.finish.timing.clockAbsent = false → s.finish.timing.state = .search →
      exec (.clockAbsent sch) s = .next (s.finish.setTiming { s.finish.timing with clockAbsent := true })) ∧
    (s.finish.timing.clockAbsent = false → s.finish.timing.state ≠ .search →
      (s.finish.closing = false →
        exec (.clockAbsent {}) s = .next reported ∧
        ∀ sch : Sched, ∃ t, exec (.clockAbsent sch) s = .next t ∧
          t = { entered with parser := t.parser, notices := t.notices, frame := t.frame }) ∧
      ∀ tag eff, s.finish.executor = .fenced tag eff true →
        (∃ t c, exec (.clockAbsent ⟨[], 7⟩) s = .next t ∧ t = { reported with frame := some c } ∧
          c = s.finish.handOver .bare (some ⟨.search, .clockAbsent, s.finish.now⟩) (FrameIn.ofList [])
            [.effect, .effectNotice, .effectParser, .drain, .drain, .drain, .drain] ∧
          t.atPhase c .effect) ∧
        (s.finish.cmdq = [] → ∃ t, exec (.clockAbsent {}) s = .next t ∧ t.executor = .idle ∧ t.frame = none ∧
          (∀ i : Slot, t.pins.row i = none) ∧ t.mixer.flight = none ∧
          (∀ inb outb, eff = .moveLink inb outb →
            t = { reported with link := ⟨inb, outb⟩, executor := .idle, pins := t.pins }) ∧
          (∀ f, eff = .setFormat f → t = { reported with timing := lost f, executor := .idle }) ∧
          (eff = .resetFull →
            t.timing = { lost s.finish.timing.format with lockLosses := 0, searchEntries := 0 } ∧
            t.link = s.finish.link ∧ t.replies = ⟨[], []⟩ ∧ t.commit = none ∧ t.notices = ⟨[], 0x77, 0, 0⟩ ∧
            t.parser = ⟨none, 0, 0, 0, 0, 0, 0⟩))) ∧
    (∀ sch : Sched, s.finish.timing.clockAbsent = true → exec (.clockAbsent sch) s = .next s) ∧
    (s.finish.timing.clockAbsent = true →
      exec .bclkReturn s = .next (s.finish.setTiming { s.finish.timing with clockAbsent := false }))

/-! ## The management link -/

/-- R21, R181, R182: each kind of word has its fields at the bit places of the table; every word the part lays out is classed as
it was laid out, and each field of a header reads back. BREAK is the word 0x3FFFFFFF, the word 0 that the part sends as IDLE
is IDLE, and so is every other word of that kind. The CRC starts from all ones and takes each word's bits from bit 31 down. -/
def Obligations.LinkWordsReadBack : Prop :=
  (∀ (origin : BitVec 2) (tag : Tag) (code : Code) (length index : BitVec 6) (low : BitVec 10) (p : Payload)
    (crc : BitVec 16) (stamp : BitVec 8),
    headerWord origin tag code length low = 1#2 ++ origin ++ tag ++ code ++ length ++ low ∧
    bodyWord index p = 2#2 ++ index ++ p ∧ trailerWord tag crc stamp = 3#2 ++ tag ++ crc ++ stamp) ∧
  (crcOf [] = 0xFFFF ∧ ∀ (words : List LinkBits) (w : LinkBits), crcOf (words ++ [w]) =
    (List.range 32).foldl (fun (r : BitVec 16) j => if r.msb = w.getLsbD (31 - j) then r <<< 1 else (r <<< 1) ^^^ 0x1021#16)
      (crcOf words)) ∧
  LinkWord.ofBits 0x00000000 = .idle ∧ LinkWord.ofBits 0x3FFFFFFF = .brk ∧
  (∀ low : BitVec 30, low ≠ BitVec.allOnes 30 → LinkWord.ofBits (0#2 ++ low) = .idle) ∧
  (∀ (origin : BitVec 2) (tag : Tag) (code : Code) (length : BitVec 6) (low : BitVec 10),
    LinkWord.ofBits (headerWord origin tag code length low) = .header (headerWord origin tag code length low) ∧
    Header.origin (headerWord origin tag code length low) = origin ∧
    Header.tag (headerWord origin tag code length low) = tag ∧
    Header.code (headerWord origin tag code length low) = code ∧
    Header.length (headerWord origin tag code length low) = length ∧
    (Header.reservedSet (headerWord origin tag code length low) = true ↔ low ≠ 0)) ∧
  (∀ (index : BitVec 6) (p : Payload), LinkWord.ofBits (bodyWord index p) = .body index p) ∧
  ∀ (echo : Tag) (crc : BitVec 16) (low : BitVec 8), LinkWord.ofBits (trailerWord echo crc low) = .trailer echo crc

/-- R20, R21, R24, R25, R28: a whole request message, laid out word by word with its CRC and taken by the parser one word
at each frame arrival from HUNT, comes out as exactly the request it was laid out from: tag, code and body unchanged,
whatever the tag, the code and the body of at most 48 words. It is laid out as the part lays its own messages out
(`ArbiterChooses`), with origin 0 and no reserved bit set. -/
def Obligations.MessageReachesTheTrailerChecks : Prop :=
  (∀ (tag : Tag) (code : Code) (body : List Payload), requestWords tag code body = messageWords 0 tag code body 0) ∧
  ∀ (s : State) (tag : Tag) (code : Code) (body : List Payload),
    s.parser.rx = none → body.length ≤ 48 →
    (requestWords tag code body).foldl State.parserWord s =
      (s.setParser { s.parser with rx := none, gap := 0, breakRun := 0 }).request tag code false body

/-- R24, R25, R26, R27, R30: what the parser does with a word, but for a trailer in BODY and a fourth BREAK. In HUNT a request
header begins a message, any other header, a body word and a trailer are counted stray, IDLE and BREAK move the BREAK run
alone. In BODY a body word in sequence is stored while there is room, one out of sequence abandons the message with
SEQUENCE; a header abandons it with INTERRUPTED and begins a message if it is a request's, else is counted stray; IDLE and
BREAK count toward the gap. -/
def Obligations.ParserTakesAWord : Prop :=
  (∀ (s : State) (w : LinkBits), s.parser.rx = none →
     (∀ h, LinkWord.ofBits w = .header h → Header.origin h = 0 →
       s.parserWord w = s.setParser { s.parser with rx := some ⟨h, []⟩, gap := 0, breakRun := 0 }) ∧
     (((∃ h, LinkWord.ofBits w = .header h ∧ Header.origin h ≠ 0) ∨ (∃ i p, LinkWord.ofBits w = .body i p) ∨
         ∃ e c, LinkWord.ofBits w = .trailer e c) →
       s.parserWord w = s.setParser { s.parser with stray := satInc s.parser.stray, gap := 0, breakRun := 0 }) ∧
     (LinkWord.ofBits w = .idle → s.parserWord w = s.setParser { s.parser with breakRun := 0 }) ∧
     (LinkWord.ofBits w = .brk → s.parser.breakRun < 3 →
       s.parserWord w = s.setParser { s.parser with breakRun := s.parser.breakRun + 1 })) ∧
  ∀ (s : State) (w : LinkBits) (m : Rx), s.parser.rx = some m →
    (∀ i p, LinkWord.ofBits w = .body i p →
      (i.toNat = m.words.length → m.words.length < 48 →
        s.parserWord w =
          s.setParser { s.parser with rx := some { m with words := m.words ++ [w] }, gap := 0, breakRun := 0 }) ∧
      (i.toNat ≠ m.words.length ∨ 48 ≤ m.words.length →
        s.parserWord w =
          (s.setParser { s.parser with
            rx := none, gap := 0, breakRun := 0, abandoned := satInc s.parser.abandoned }).post
            (.inboundAbandoned s.now .sequence (Header.tag m.header) m.words.length))) ∧
    (∀ h, LinkWord.ofBits w = .header h →
      s.parserWord w =
        ((s.setParser { s.parser with
          rx := none, gap := 0, breakRun := 0, abandoned := satInc s.parser.abandoned }).post
          (.inboundAbandoned s.now .interrupted (Header.tag m.header) m.words.length)).takeHeader h) ∧
    (LinkWord.ofBits w = .idle → s.parser.gap < 8 →
      s.parserWord w = s.setParser { s.parser with gap := s.parser.gap + 1, breakRun := 0 }) ∧
    (LinkWord.ofBits w = .brk → s.parser.breakRun < 3 → s.parser.gap < 8 →
      s.parserWord w = s.setParser { s.parser with gap := s.parser.gap + 1, breakRun := s.parser.breakRun + 1 })

/-- R28, R38, R40, R41, R46, R47: the seven trailer checks in their order. The first three refuse BAD_TRAILER, BAD_LENGTH
and BAD_CRC; the parser is in HUNT whatever the outcome, and a failed CRC check alone is counted. A message that meets
one of the others is refused with its status and the code as received and touches neither the Command Queue nor any
live tag; one accepted behind a fence waits in the queue with its place RESERVED; with no place FREE every message is
discarded and counted. A request command is a message that has passed the first three. That a failed CRC check is
counted even then is DEDUCED (assumption 11). -/
def Obligations.TrailerChecksInOrder : Prop :=
  (∀ (s : State) (m : Rx) (echo : Tag) (crc : BitVec 16),
     let u := s.setParser { s.parser with rx := none }
     let v := s.setParser { s.parser with rx := none, crcErrors := satInc s.parser.crcErrors }
     let done (t : State) (o : Option Status) :=
       t.settle (Header.tag m.header) (Header.code m.header) (Header.reservedSet m.header) (m.words.map payloadOf) o
     (echo ≠ Header.tag m.header → s.takeTrailer m echo crc = done u (some .badTrailer)) ∧
     (echo = Header.tag m.header → m.words.length ≠ (Header.length m.header).toNat →
       s.takeTrailer m echo crc = done u (some .badLength)) ∧
     (echo = Header.tag m.header → m.words.length = (Header.length m.header).toNat →
       crcOf (m.header :: m.words) ≠ crc → s.takeTrailer m echo crc = done v (some .badCrc)) ∧
     (echo = Header.tag m.header → m.words.length = (Header.length m.header).toNat →
       crcOf (m.header :: m.words) = crc →
       s.takeTrailer m echo crc =
         u.request (Header.tag m.header) (Header.code m.header) (Header.reservedSet m.header)
           (m.words.map payloadOf))) ∧
  (∀ (q : ReplyQueue) (tag : Tag), q.free = 8 - (q.reserved.length + q.ready.length) ∧
    (q.live tag = true ↔ (∃ p ∈ q.reserved, p.tag = tag) ∨ ∃ p ∈ q.ready, p.refusal = false ∧ p.tag = tag)) ∧
  (∀ (s : State) (tag : Tag) (code : Code) (hdrReserved : Bool) (body : List Payload) (st : Status),
    s.deliver code ⟨tag, hdrReserved, body⟩ = s.request tag code hdrReserved body ∧
    (s.replies.free = 0 → ∀ o, s.settle tag code hdrReserved body o =
      s.setParser { s.parser with discards := satInc s.parser.discards }) ∧
    (s.replies.free ≠ 0 → s.settle tag code hdrReserved body (some st) = s.setReplies
      { s.replies with ready := s.replies.ready ++ [⟨tag, st, [0#18 ++ code], true⟩] })) ∧
  ∀ (s : State) (code : Code) (r : Req),
    let refused (st : Status) := s.setReplies
      { s.replies with ready := s.replies.ready ++ [⟨r.tag, st, [0#18 ++ code], true⟩] }
    let known : Prop := 1 ≤ code.toNat ∧ code.toNat ≤ 32
    (s.replies.free = 0 →
      s.deliver code r = s.setParser { s.parser with discards := satInc s.parser.discards }) ∧
    (s.replies.free ≠ 0 →
      (r.tag = 0 → s.deliver code r = refused .badField) ∧
      (r.tag ≠ 0 → ¬ known → s.deliver code r = refused .unknownCode) ∧
      (r.tag ≠ 0 → known → s.replies.live r.tag = true → s.deliver code r = refused .duplicateTag) ∧
      (r.tag ≠ 0 → known → s.replies.live r.tag = false → 4 ≤ s.cmdq.length → s.deliver code r = refused .busy) ∧
      (r.tag ≠ 0 → known → s.replies.live r.tag = false → s.cmdq.length < 4 → s.executor ≠ .idle →
        s.deliver code r = (s.reserved r.tag code).setCmdq (s.cmdq ++ [⟨r.tag, code, r.hdrReserved, r.body⟩])))

/-- R27, R28, R33: the three commands for what the open frame's word may bring. Each completes where its word and the
parser's state bring it, taking the parser's part of the open event and nothing else. That a gap abandonment leaves
the gap count as it is, which nothing shows, is DEDUCED (assumption 12). -/
def Obligations.ParserEventsComplete : Prop :=
  ∀ (s : State) (c : FrameCtx), s.atPhase c .parser →
    (∀ m, s.parser.rx = some m → 8 ≤ s.parser.gap → LinkWord.ofBits c.word = .idle →
      exec .abandonGap s = .next
        ((((s.took c .parser).setParser { s.parser with
          rx := none, breakRun := 0, abandoned := satInc s.parser.abandoned }).post
          (.inboundAbandoned s.now .gap (Header.tag m.header) m.words.length)).closeEvent)) ∧
    (∀ m, s.parser.rx = some m → 8 ≤ s.parser.gap → LinkWord.ofBits c.word = .brk → s.parser.breakRun < 3 →
      exec .abandonGap s = .next
        ((((s.took c .parser).setParser { s.parser with
          rx := none, breakRun := s.parser.breakRun + 1, abandoned := satInc s.parser.abandoned }).post
          (.inboundAbandoned s.now .gap (Header.tag m.header) m.words.length)).closeEvent)) ∧
    (∀ m echo crc, s.parser.rx = some m → LinkWord.ofBits c.word = .trailer echo crc →
      exec .requestMessage s = .next
        ((((s.took c .parser).setParser { s.parser with gap := 0, breakRun := 0 }).takeTrailer m echo crc).closeEvent)) ∧
    (LinkWord.ofBits c.word = .brk → 3 ≤ s.parser.breakRun →
      exec .linkResync s = .next ((s.took c .parser).resync.closeEvent))

/-- R34, R35, R81: what a link resync leaves: the parser in HUNT, no queued request, no pending commit, every place FREE, no
message in progress and no mark, the last-served mark NOTICE, a fence released unless its trailer has gone, LINK_RESYNC
posted with the requests dropped; all else as it was. -/
def Obligations.LinkResyncClearsTheLink : Prop :=
  ∀ s : State,
    let waits : Bool := match s.executor with
      | .fenced _ _ false => true
      | _ => false
    s.resync =
      { s with
        parser := { s.parser with rx := none, gap := 0, breakRun := 0 }
        cmdq := [], executor := if waits then .idle else s.executor
        commit := none, replies := ⟨[], []⟩, composer := ⟨none, false, false⟩
        notices := s.notices.post
          (.linkResync s.now (s.cmdq.length + if waits then 1 else 0) s.commit.isSome) }

/-- R14, R17, R29, R30, R32, R37, R44, R61, R150, R178, R179: a fenced request whose reply's trailer has been emitted
takes its effect after the event that closes that output frame, and the Executor is IDLE after it. A format change
that enters SEARCH marks a message in progress, and its next parts post FRAME_STATE with FORMAT_CHANGE and abandon a
message being received; taken in SEARCH it posts nothing. RESET FULL clears the capture record but for the end reason
of a capture that ran. That a moved link releases the old outbound slot at once is DEDUCED (assumption 14). -/
def Obligations.EffectsFollowTheirEvent : Prop :=
  ∀ (s : State) (c : FrameCtx) (tag : Tag), s.atPhase c .effect →
    (∀ inb outb, s.executor = .fenced tag (.moveLink inb outb) true →
      exec .moveLinkEffect s = .next { s with
        link := ⟨inb, outb⟩, executor := .idle, pins := s.pins.put s.link.outb none, parser := s.parser.lost
        notices := s.parser.lostNotice .linkMoved s.now s.notices
        frame := { c with entry := none, todo := c.todo.erase .effect }.left }) ∧
    (∀ f, s.executor = .fenced tag (.setFormat f) true →
      ∃ t, exec .formatChangeEffect s = .next t ∧ t.timing.format = f ∧ t.timing.state = .search ∧
        t.executor = .idle ∧ t.now = s.now ∧ t.timing.inLanes = s.timing.inLanes ∧
        t = { s with
          timing := t.timing, pins := t.pins, mixer := t.mixer, composer := t.composer
          executor := t.executor, frame := t.frame } ∧
        t.timing.outLanes = s.timing.outLanes ∧ t.timing.clockAbsent = s.timing.clockAbsent ∧
        t.timing.searchEntries =
          (if s.timing.state = .search then s.timing.searchEntries else satInc s.timing.searchEntries) ∧
        t.frame = FrameCtx.left { c with
          entry := if s.timing.state = .search then none else some ⟨TimingState.search, .formatChange, s.now⟩
          todo := c.todo.erase .effect } ∧
        (s.timing.state ≠ .search →
          (∀ i : Slot, t.pins.row i = none) ∧ t.mixer = { s.mixer with flight := none } ∧ t.timing.sinceRef = none ∧
          t.timing.confirmCount = none ∧ t.timing.lockLosses = s.timing.lockLosses ∧ t.timing.holdoverCount = 0 ∧
          t.timing.returnRun = false ∧ t.composer = s.composer.cut ∧
          (.effectNotice ∈ c.todo → (t.runPhase .effectNotice).notices = s.notices.post
            (.frameState s.now .search .formatChange s.timing.clockAbsent)) ∧
          (.effectParser ∈ c.todo → (t.runPhase .effectParser).parser = s.parser.lost ∧
            (t.runPhase .effectParser).notices = s.parser.lostNotice .lockLost s.now s.notices)) ∧
        (s.timing.state = .search → t.composer = s.composer ∧ t.pins = s.pins ∧ t.mixer = s.mixer ∧
          t.timing = { s.timing with format := f } ∧
          (.effectNotice ∈ c.todo → t.runPhase .effectNotice = t) ∧
          (.effectParser ∈ c.todo → t.runPhase .effectParser = t))) ∧
    (s.executor = .fenced tag .resetFull true →
      ∃ t, exec .resetFullEffect s = .next t ∧
        t.timing = { s.timing with lockLosses := 0, searchEntries := 0 } ∧ t.link = s.link ∧
        t.parser = ⟨none, 0, 0, 0, 0, 0, 0⟩ ∧ t.cmdq = [] ∧ t.executor = .idle ∧ t.replies = ⟨[], []⟩ ∧
        t.notices = ⟨[], 0x77, 0, 0⟩ ∧ t.composer = { s.composer with lastReply := false } ∧ t.commit = none ∧
        t.memory = s.memory ∧ t.powerUps = s.powerUps ∧ t.mixer.flight = s.mixer.flight ∧ t.pins = s.pins ∧
        t.pending = s.pending ∧ t.frame = { c with entry := none, todo := c.todo.erase .effect }.left ∧
        (∀ id : RegionNo, t.regions.row id = none) ∧
        t.capture =
          { state := .idle, region := none, subject := none, mode := none, trigger := none, postCount := 0
            writeOffset := 0, written := 0, postRemaining := 0, triggerOffset := none, holdoverFrames := 0
            startFrame := none, endReason := if s.capture.state = .idle then none else some .aborted } ∧
        (∀ p : PlayerNo, t.players.row p = ⟨false, none, 0, 0, 0, 0⟩) ∧
        (∀ w : WatchNo, t.watches.row w = ⟨.disarmed, none, 0⟩) ∧
        (∀ g : GroupNo, t.groups.row g = ⟨2, 1, false, 0, 0⟩) ∧
        (∀ i : Slot, t.staged.row i = ⟨.released, .live, 0, [], false⟩ ∧ (t.active.row i).drive = .released ∧
          (t.active.row i).hold = .live ∧ (t.active.row i).group = 0 ∧
          (∀ k : BitVec 2, (t.active.row i).pos.row k = .empty) ∧
          t.mixer.clips.row i = 0 ∧ t.mixer.lastEmitted.row i = 0))

/-! ## Outbound words, replies and notices -/

/-- R52, R109: the four tests of a posting, in order: a disabled kind is dropped, a posting of a queued kind and subject is
folded into that notice, any other joins the end while there is room, and is counted lost when there is none. A CLIP
posting for one slot folded into a queued CLIP notice: a listed slot changes nothing, a new one joins the end, the
thirty-third is counted as overflow, up to 127; the frame number is the posting's. Of every other kind the posting's values
become the notice's. -/
def Obligations.PostingMeetsFourTests : Prop :=
  (∀ (k : Nat) (x : BitVec k), (satInc x).toNat = min (x.toNat + 1) (2 ^ k - 1)) ∧
  (∀ a b : NoticeVal, a.sameKey b = true ↔ a.kind = b.kind ∧ a.subject = b.subject) ∧
  (∀ old new : NoticeVal, new.kind ≠ 8 → old.fold new = new) ∧
  (∀ (n : NoticeSide) (v : NoticeVal),
     (n.mask.getLsbD (v.kind - 1) = false → n.post v = n) ∧
     (n.mask.getLsbD (v.kind - 1) = true → (∃ q ∈ n.queue, q.val.sameKey v = true) →
       (n.post v).queue.length = n.queue.length ∧ (n.post v).lost = n.lost ∧
       ∀ (i : Nat) (q : Notice), n.queue[i]? = some q →
         (n.post v).queue[i]? = some (if q.val.sameKey v then (⟨q.val.fold v, satInc q.count⟩ : Notice) else q)) ∧
     (n.mask.getLsbD (v.kind - 1) = true → (∀ q ∈ n.queue, q.val.sameKey v = false) → n.queue.length < 16 →
       n.post v = { n with queue := n.queue ++ [⟨v, 1⟩] }) ∧
     (n.mask.getLsbD (v.kind - 1) = true → (∀ q ∈ n.queue, q.val.sameKey v = false) → 16 ≤ n.queue.length →
       n.post v = { n with lost := satInc n.lost })) ∧
  ∀ (f g : FrameNo) (slots : List Slot) (overflow posted : Nat) (i : Slot),
    (i ∈ slots → NoticeVal.fold (.clip f slots overflow) (.clip g [i] posted) = .clip g slots overflow) ∧
    (i ∉ slots → slots.length < 32 →
      NoticeVal.fold (.clip f slots overflow) (.clip g [i] posted) = .clip g (slots ++ [i]) overflow) ∧
    (i ∉ slots → 32 ≤ slots.length →
      NoticeVal.fold (.clip f slots overflow) (.clip g [i] posted) = .clip g slots (min 127 (overflow + 1)))

/-- R20, R21, R39, R53, R54, R57, R182: with no message in progress, the arbiter's choice at an output frame that begins
in LOCKED: the kind that was not served last where both queues have something, else the one that has, else IDLE. A
chosen notice leaves the queue with the sequence value as its tag and Notices Lost in its body; the sequence advances
and Notices Lost becomes 0. A chosen reply is the first in the ready order and keeps its place. The words of a chosen
message are its header, its body words with their positions, and a trailer with the tag, the CRC of all before it and
the stamp's high bits. -/
def Obligations.ArbiterChooses : Prop :=
  (∀ (origin : BitVec 2) (tag : Tag) (code : Code) (body : List Payload) (frame : FrameNo),
    let words := messageWords origin tag code body frame
    words.length = body.length + 2 ∧
    words[0]? = some (headerWord origin tag code (BitVec.ofNat 6 body.length) (frame.extractLsb' 0 10)) ∧
    (∀ (i : Nat) (p : Payload), body[i]? = some p → words[i + 1]? = some (bodyWord (BitVec.ofNat 6 i) p)) ∧
    words[body.length + 1]? =
      some (trailerWord tag (crcOf (words.take (body.length + 1))) (frame.extractLsb' 10 8))) ∧
  ∀ s : State, s.composer.message = none →
    (s.replies.ready = [] → s.notices.queue = [] → s.nextWord = (s, 0)) ∧
    (∀ r rest, s.replies.ready = r :: rest → (s.notices.queue = [] ∨ s.composer.lastReply = false) →
      s.nextWord =
        (s.setComposer ⟨some ⟨messageWords 1 r.tag r.status.code r.body s.now, 1, true⟩, false, true⟩,
          headerWord 1 r.tag r.status.code (BitVec.ofNat 6 r.body.length) (s.now.extractLsb' 0 10))) ∧
    (∀ n rest, s.notices.queue = n :: rest → (s.replies.ready = [] ∨ s.composer.lastReply = true) →
      s.nextWord =
        ((s.setComposer
            ⟨some ⟨messageWords 2 s.notices.seq (BitVec.ofNat 6 n.val.kind) (n.body s.notices.lost) s.now, 1, false⟩,
              false, false⟩).setNotices
            { s.notices with queue := rest, lost := 0, seq := s.notices.seq + 1 },
          headerWord 2 s.notices.seq (BitVec.ofNat 6 n.val.kind) (BitVec.ofNat 6 (n.body s.notices.lost).length)
            (s.now.extractLsb' 0 10)))

/-- R13, R22, R31, R32, R44, R48: a message in progress goes on with its next word, or from its header where it is marked;
its trailer ends it, and a reply's trailer frees the place at the head of the ready order and lets a fence that waited for
it wait for the close of the output frame. What stands in the management outbound slot of an output frame: the composer's
word in LOCKED, IDLE in HOLDOVER, nothing in SEARCH and CONFIRM. -/
def Obligations.ComposerPlacesItsWords : Prop :=
  (∀ (s : State) (m : OutMessage), s.composer.message = some m →
     let i := if s.composer.restart then 0 else m.sent
     (i + 1 < m.words.length →
       s.nextWord =
         (s.setComposer { s.composer with message := some { m with sent := i + 1 }, restart := false },
           m.words.getD i 0)) ∧
     (m.words.length = i + 1 → m.isReply = false →
       s.nextWord = (s.setComposer { s.composer with message := none, restart := false }, m.words.getD i 0)) ∧
     (m.words.length = i + 1 → m.isReply = true → ∀ r rest, s.replies.ready = r :: rest →
       s.nextWord =
         (((s.setComposer { s.composer with message := none, restart := false }).setReplies
             { s.replies with ready := rest }).setExecutor
             (match s.executor with
               | .fenced tag eff false =>
                 if r.refusal = false ∧ r.tag = tag then .fenced tag eff true else .fenced tag eff false
               | e => e),
           m.words.getD i 0))) ∧
  ∀ s : State, laneOn s.timing.outLanes s.link.outb = true → s.timing.format.present s.link.outb = true →
    (s.timing.state = .locked →
      s.emitWord = s.nextWord.1.setPins (s.pins.put s.link.outb (some s.nextWord.2))) ∧
    (s.timing.state = .holdover → s.emitWord = s.setPins (s.pins.put s.link.outb (some 0))) ∧
    (s.timing.state = .search ∨ s.timing.state = .confirm → s.emitWord = s)

/-! ## Route Tables and Fade Groups -/

/-- R72: what the application of a dirty entry makes of one position of an entry, whatever the position and the staged record
at its place, or *empty* where the list is too short: the comparison in a group with a nonzero interval, and in a jump group
what stands there once every movement is completed at once. -/
def Obligations.CommitComparesPositions : Prop :=
  (∀ (groups : Table 3 Group) (e : Staged) (a : Active) (k : BitVec 2), e.dirty = true →
    (e.apply groups a).pos.row k =
      (a.pos.row k).adopt (groups.row e.group).muted ((groups.row e.group).interval == 0) e.list[k.toNat]?) ∧
  ∀ (muted : Bool) (c p : Contrib) (cur : Gain) (pend : Option Contrib) (rec : Option Contrib),
    let settles (q : Contrib) (g : Gain) : Position :=
      if g = (if muted then 0 else q.target) then .steady q g else .ramping q g
    let matching : Bool := p.source == c.source && p.polarity == c.polarity
    Position.adopt muted false none .empty = .empty ∧
    Position.adopt muted false (some p) .empty = settles p 0 ∧
    (∀ old ∈ [Position.steady c cur, Position.ramping c cur, Position.draining c cur pend],
      (matching = true → Position.adopt muted false (some p) old = settles p cur) ∧
      (matching = false → Position.adopt muted false (some p) old = .draining c cur (some p)) ∧
      Position.adopt muted false none old = .draining c cur none) ∧
    -- in a jump group nothing is left moving, and a brought contributor stands at its effective target
    (∀ old : Position, (Position.adopt muted true rec old).moving = false) ∧
    (∀ old : Position, Position.adopt muted true none old = .empty) ∧
    (∀ old : Position, ∀ q ∈ rec,
      ∃ g, Position.adopt muted true rec old = .steady q g ∧ g = if muted then 0 else q.target)

/-- R71, R74, R86, R87, R96: COMMIT_APPLY completes at an arrival whose test meets the gate. Every dirty entry takes its
staged drive, hold policy and group with its positions compared, every other entry stays as it is, every dirty mark is
cleared, the record ends, and the COMMIT is answered DONE with the entries applied, the frame number and the elapsed
count, its place passing from RESERVED to the end of the ready order. A group whose count rises from 0 has its
countdown set, not to be decremented at this frame; one whose count falls to 0 has it cleared, and posts RAMP_DONE if
a mover stopped in it. -/
def Obligations.CommitApplyCompletes : Prop :=
  ∀ (s : State) (c : FrameCtx) (k : Commit), s.atPhase c .commitTest → s.commit = some k → c.kind = .arrival →
    (k.gate = .none ∨ ∀ (i : Slot) (n : BitVec 2), ((s.active.row i).pos.row n).moving = false) →
    ∃ t, exec .commitApply s = .next t ∧ t.commit = none ∧
      (∀ i : Slot, (s.staged.row i).dirty = true →
        (t.active.row i).drive = (s.staged.row i).drive ∧ (t.active.row i).hold = (s.staged.row i).hold ∧
        (t.active.row i).group = (s.staged.row i).group ∧
        ∀ n : BitVec 2, (t.active.row i).pos.row n =
          ((s.active.row i).pos.row n).adopt (s.groups.row (s.staged.row i).group).muted
            ((s.groups.row (s.staged.row i).group).interval == 0) (s.staged.row i).list[n.toNat]?) ∧
      (∀ i : Slot, (s.staged.row i).dirty = false → t.active.row i = s.active.row i) ∧
      (∀ i : Slot, t.staged.row i = { s.staged.row i with dirty := false }) ∧
      s.countsFollow t s.groups ∧
      t.frame = ({ c with todo := c.todo.erase .commitTest }.lessRisen s.groups t.active).left ∧
      t.replies = ⟨s.replies.reserved.eraseP fun p => p.tag == k.tag, s.replies.ready ++
        [⟨k.tag, .done, [0#17 ++ BitVec.ofNat 7 (s.staged.toList.countP (·.dirty)), s.now.extractLsb' 0 24,
          0#16 ++ s.now.extractLsb' 24 8, 0#8 ++ k.elapsed], false⟩]⟩ ∧
      t = { s with
        staged := t.staged, active := t.active, commit := t.commit, groups := t.groups
        replies := t.replies, notices := t.notices, frame := t.frame }

/-- R70, R73, R75: a declared frame at which the gate is not met raises the elapsed count; with RAMPS_IDLE the frame that
brings it to the limit ends the commit with RAMP_TIMEOUT, dirty marks and Active Table untouched; an emitted frame
tests nothing. -/
def Obligations.CommitWaitsOrTimesOut : Prop :=
  ∀ (s : State) (c : FrameCtx) (k : Commit), s.commit = some k →
    (c.kind = .emitted ∨
      (k.gate = .rampsIdle ∧ ∃ (i : Slot) (n : BitVec 2), ((s.active.row i).pos.row n).moving = true)) →
    let late : Prop := k.gate = .rampsIdle ∧ k.limit.toNat ≤ (satInc k.elapsed).toNat
    (¬ late → s.commitStep (c.kind == .arrival) = s.setCommit (some { k with elapsed := satInc k.elapsed })) ∧
    (late → s.atPhase c .commitTest →
      exec .commitTimeout s = .next
        ((((s.took c .commitTest).setCommit none).reply k.tag .rampTimeout
          [0, s.now.extractLsb' 0 24, 0#16 ++ s.now.extractLsb' 24 8, 0#8 ++ satInc k.elapsed]).closeEvent))

/-- R82, R83, R84, R86, R87: one expiry's movement of one position of a group with a nonzero interval: the gain moves by
the step toward the effective target and never past it, a drain only falls, a movement that arrives ends, and a
completed drain is replaced at gain 0; what does not move is left alone. Short of an expiry, the frame step of a group
does nothing without movers and takes one off the countdown with them. The movers of a group are the RAMPING and
DRAINING positions of its entries. -/
def Obligations.ExpiryMovesOnePosition : Prop :=
  (∀ (c : Contrib) (cur : Gain) (pend : Option Contrib),
    Position.moving .empty = false ∧ Position.moving (.steady c cur) = false ∧
    Position.moving (.ramping c cur) = true ∧ Position.moving (.draining c cur pend) = true) ∧
  (∀ (g : GroupNo) (t : Table 6 Active), movers g t = (List.range 256).countP fun n =>
    (t.row (BitVec.ofNat 6 (n / 4))).group == g &&
      ((t.row (BitVec.ofNat 6 (n / 4))).pos.row (BitVec.ofNat 2 (n % 4))).moving) ∧
  (∀ (step : Nat) (muted : Bool) (c p : Contrib) (cur : Gain),
     let goal : Gain := if muted then 0 else c.target
     let next : Nat :=
       if cur.toNat < goal.toNat then min (cur.toNat + step) goal.toNat else max (cur.toNat - step) goal.toNat
     (∃ g : Gain, g.toNat = next ∧
       Position.expire step muted false (.ramping c cur) = if g = goal then .steady c g else .ramping c g) ∧
     (∀ pend, cur.toNat ≤ step → Position.expire step muted false (.draining c cur pend) =
       match pend with
       | none => .empty
       | some q => if muted ∨ q.target = 0 then .steady q 0 else .ramping q 0) ∧
     (∀ pend, step < cur.toNat → ∃ g : Gain, g.toNat = cur.toNat - step ∧
       Position.expire step muted false (.draining c cur pend) = .draining c g pend) ∧
     Position.expire step muted false (.steady p cur) = .steady p cur ∧
     Position.expire step muted false .empty = .empty) ∧
  ∀ (s : State) (g : GroupNo),
    ((s.groups.row g).moving = 0 → s.groupStep g = s) ∧
    (0 < (s.groups.row g).moving → 2 ≤ (s.groups.row g).countdown →
      s.groupStep g = s.setGroups (s.groups.put g
        { s.groups.row g with countdown := (s.groups.row g).countdown - 1 }))

/-- R83, R86, R87, R96, R102: GROUP_EXPIRY completes at a frame that brings the countdown of a group with movers to 0. Each
position of the group's entries makes the movement of `ExpiryMovesOnePosition`, no other entry changes, the count is
brought up to date, the countdown starts again only if movers are left, and the last stop posts RAMP_DONE (said where the
group's count is true, `RampLawIsKept`). -/
def Obligations.GroupExpiryCompletes : Prop :=
  ∀ (s : State) (c : FrameCtx) (g : GroupNo), s.atPhase c (.group g) →
    0 < (s.groups.row g).moving → (s.groups.row g).countdown = 1 →
    ∃ t, exec (.groupExpiry g) s = .next t ∧
      (∀ i : Slot, (s.active.row i).group ≠ g → t.active.row i = s.active.row i) ∧
      (∀ i : Slot, (s.active.row i).group = g →
        (t.active.row i).drive = (s.active.row i).drive ∧ (t.active.row i).hold = (s.active.row i).hold ∧
        (t.active.row i).group = g ∧
        ∀ n : BitVec 2, (t.active.row i).pos.row n =
          ((s.active.row i).pos.row n).expire (s.groups.row g).step (s.groups.row g).muted
            ((s.groups.row g).interval == 0)) ∧
      t.groups.row g = { s.groups.row g with
        moving := movers g t.active
        countdown := if movers g t.active = 0 then 0 else (s.groups.row g).interval } ∧
      (∀ h : GroupNo, h ≠ g → t.groups.row h = s.groups.row h) ∧
      (s.rampLaw → movers g t.active = 0 → t.notices = s.notices.post (.rampDone g s.now)) ∧
      (0 < movers g t.active → t.notices = s.notices) ∧ t.frame = c.without (.group g) ∧
      t = { s with
        active := t.active, groups := t.groups, notices := t.notices, frame := t.frame }

/-! ## Output Mixer -/

/-- R104: the gain factors and the scaling of a sample, with the consequences the rule draws. The rounding of G(c) is said
in whole numbers: with G the factor of code c, (2G − 1)/2^21 and (2G + 1)/2^21 enclose 10^((c − 243)/40). The rule's last
sentence bounds every contribution by −16,737,470 from below. The model computes by the formula, under which that bound
holds of an INVERTED contribution alone and a scaled value goes down to −16,737,472: that reading is the model's (DEDUCED,
assumption 22). -/
def Obligations.GainArithmetic : Prop :=
  gainFactor 0 = 0 ∧
  (∀ c : Gain, 1 ≤ c.toNat → c.toNat ≤ 243 →
    (2 * gainFactor c - 1) ^ 40 * 10 ^ (243 - c.toNat) ≤ (2 ^ 21) ^ 40 ∧
    (2 ^ 21) ^ 40 < (2 * gainFactor c + 1) ^ 40 * 10 ^ (243 - c.toNat)) ∧
  (∀ c : Gain, 243 < c.toNat →
    (2 * gainFactor c - 1) ^ 40 ≤ (2 ^ 21) ^ 40 * 10 ^ (c.toNat - 243) ∧
    (2 ^ 21) ^ 40 * 10 ^ (c.toNat - 243) < (2 * gainFactor c + 1) ^ 40) ∧
  (∀ (x : Sample) (c : Gain),
    2 ^ 20 * scale x c ≤ x.toInt * gainFactor c ∧ x.toInt * gainFactor c < 2 ^ 20 * (scale x c + 1)) ∧
  (∀ (source : Source) (target cur : Gain) (x : Sample),
    Contrib.contribution ⟨source, target, .normal⟩ x cur = scale x cur ∧
    Contrib.contribution ⟨source, target, .inverted⟩ x cur = -(scale x cur) ∧
    -16737470 ≤ Contrib.contribution ⟨source, target, .inverted⟩ x cur ∧
    Contrib.contribution ⟨source, target, .inverted⟩ x cur ≤ 16737472) ∧
  (∀ (source : Source → Sample) (c : Contrib) (cur : Gain),
    (Position.steady c cur).contribution source = c.contribution (source c.source) cur ∧
    (Position.ramping c cur).contribution source = c.contribution (source c.source) cur) ∧
  (∀ x : Sample, scale x 0 = 0 ∧ scale x 243 = x.toInt) ∧
  (∀ x : Sample, 0 ≤ x.toInt → x.toInt < 1048576 → scale x 1 = 0) ∧
  (∀ x : Sample, -1048576 ≤ x.toInt → x.toInt < 0 → scale x 1 = -1) ∧
  (∀ (x : Sample) (c : Gain), x.toInt < 0 → c ≠ 0 → scale x c ≤ -1) ∧
  (∀ (x : Sample) (c : Gain), c.toNat ≤ 243 → (0 ≤ x.toInt → 0 ≤ scale x c ∧ scale x c ≤ x.toInt) ∧
    (x.toInt < 0 → x.toInt ≤ scale x c)) ∧
  (∃ (x y : Sample) (c : Gain), y.toInt = -x.toInt ∧ -(scale x c) = scale y c + 1) ∧
  (∀ (x : Sample) (c : Gain), -16737472 ≤ scale x c ∧ scale x c ≤ 16737470)

/-- R107: the exact sum of four contributions and its saturation. -/
def Obligations.SumIsExactThenSaturated : Prop :=
  (∀ (source : Source → Sample) (e : Active),
    e.sum source = (e.pos.row 0).contribution source + (e.pos.row 1).contribution source
      + (e.pos.row 2).contribution source + (e.pos.row 3).contribution source ∧
    -66949888 ≤ e.sum source ∧ e.sum source ≤ 66949888) ∧
  (∀ source : Source → Sample, Position.empty.contribution source = 0) ∧
  (∀ (source : Source → Sample) (c : Contrib) (cur : Gain) (pend : Option Contrib),
    (Position.draining c cur pend).contribution source = c.contribution (source c.source) cur) ∧
  saturate (Contrib.contribution ⟨0, 243, .inverted⟩ 0x800000 243) = 8388607 ∧
  (∀ x : Int, (8388607 < x → saturate x = 8388607) ∧ (x < -8388608 → saturate x = -8388608) ∧
    (-8388608 ≤ x → x ≤ 8388607 → saturate x = x)) ∧
  ∀ (s : State) (c : FrameCtx) (i : Slot), (s.active.row i).computed c.kind = true →
    ∃ r, ((s.flightOf c (s.sums c)).slots.row i).result = some r ∧
      r.toInt = saturate ((s.active.row i).sum c.source)

/-- R3, R63, R105, R106, R108, R110: the computation of a declared frame in LOCKED or HOLDOVER. A DRIVEN entry, at an
emitted frame a LIVE one, is computed; its saturated sum is in flight with the drive and the hold policy the entry
has; its clip count rises where the saturation changed the sum; nothing else changes but postings of CLIP, one for
each slot whose count rises from 0, in ascending slot number. What a source gives for the frame: an input slot the
first 24 bits that its lane carried there, or 0 where the lane is disabled or the position absent; a player the sample
it handed over; and a watch or a capture reads the same. -/
def Obligations.ComputationOfAFrame : Prop :=
  (∀ (s : State) (kind : FrameKind) (entry : Option Entry) (inp : FrameIn) (todo : List Phase) (i : Slot),
    let c := s.handOver kind entry inp todo
    let carried : Sample :=
      if s.timing.inLanes.getLsbD (i.toNat / 16) = true ∧ (s.timing.format.sixteen = true ∨ i.toNat % 16 < 8) then
        (inp.lanes.row i).extractLsb' 8 24
      else 0
    c.source (i.setWidth 7) = carried ∧ c.value (.input i) = carried) ∧
  (∀ c : FrameCtx,
    (∀ i : Slot, c.source (i.setWidth 7) = c.value (.input i)) ∧
    (∀ p : PlayerNo, c.source (64 + p.setWidth 7) = c.given.row p ∧ c.value (.player p) = c.given.row p)) ∧
  ∀ (s : State) (c : FrameCtx), s.timing.state = .locked ∨ s.timing.state = .holdover →
    let computed (i : Slot) : Prop := (s.active.row i).drive = .driven ∧
      (c.kind = .arrival ∨ (c.kind = .emitted ∧ (s.active.row i).hold = .live))
    let sum (i : Slot) : Int := (s.active.row i).sum c.source
    ∃ f, (s.mix c).mixer.flight = some f ∧ f.held = (c.kind == .emitted) ∧
      (∀ i : Slot, (f.slots.row i).drive = (s.active.row i).drive ∧ (f.slots.row i).hold = (s.active.row i).hold) ∧
      (∀ i : Slot, computed i →
        (∃ r, (f.slots.row i).result = some r ∧ r.toInt = saturate (sum i)) ∧
        (s.mix c).mixer.clips.row i =
          if saturate (sum i) = sum i then s.mixer.clips.row i else satInc (s.mixer.clips.row i)) ∧
      (∀ i : Slot, ¬ computed i → (f.slots.row i).result = none ∧
        (s.mix c).mixer.clips.row i = s.mixer.clips.row i) ∧
      (s.mix c).mixer.lastEmitted = s.mixer.lastEmitted ∧
      (∃ fresh : List Slot, fresh.Pairwise (fun i j => i.toNat < j.toNat) ∧
        (∀ i : Slot, i ∈ fresh ↔ computed i ∧ saturate (sum i) ≠ sum i ∧ s.mixer.clips.row i = 0) ∧
        (s.mix c).notices = fresh.foldl (fun n i => n.post (.clip s.now [i] 0)) s.notices) ∧
      s.mix c = { s with mixer := (s.mix c).mixer, notices := (s.mix c).notices }

/-- R13, R63, R110, R111, R112, R113, R114: what an audio slot carries in the output frame that begins now, and what that
does to its last emitted value: 0 unrecorded where nothing is in flight, in HOLDOVER too and whatever the hold policy
(DEDUCED, assumption 30); the result in LOCKED; in a held frame what the hold policy gives; nothing where the drive, the
lane or the format releases it. A REPEAT slot carries its last emitted value as it stands, which the two frames of zeros after an entry to LOCKED do not set, although R113 calls it
the value of the last driven output frame before the entry too (DEDUCED, assumption 27). The value it carries, 0 where
it is released, is handed over with the frame to the watches and the capture. -/
def Obligations.OutputFrameCarries : Prop :=
  (∀ (s : State) (c : FrameCtx), s.frame = some c → ∃ c', s.beginOutput.frame = some c' ∧
    c' = { c with emitted := c'.emitted } ∧
    (∀ i : Slot, i ≠ s.link.outb → c'.value (.output i) =
      match s.beginOutput.pins.row i with
      | none => 0
      | some w => w.extractLsb' 8 24)) ∧
  ∀ (s : State) (i : Slot), i ≠ s.link.outb →
    let on : Prop := s.timing.state.driving = true ∧ laneOn s.timing.outLanes i = true ∧
      s.timing.format.present i = true
    let pin := s.beginOutput.pins.row i
    let last := s.beginOutput.mixer.lastEmitted.row i
    (¬ on → pin = none ∧ last = s.mixer.lastEmitted.row i) ∧
    (s.mixer.flight = none → last = s.mixer.lastEmitted.row i ∧
      (on → (s.active.row i).drive = .driven → pin = some 0) ∧ ((s.active.row i).drive = .released → pin = none)) ∧
    (∀ f, s.mixer.flight = some f →
      ((f.slots.row i).drive = .released → pin = none ∧ last = s.mixer.lastEmitted.row i) ∧
      (on → (f.slots.row i).drive = .driven →
        let held : Prop := f.held = true ∨ s.timing.state = .holdover
        (∀ v, (f.slots.row i).result = some v → (¬ held ∨ (f.slots.row i).hold = .live) →
          pin = some (v ++ 0#8) ∧ last = v) ∧
        (held → (f.slots.row i).hold = .repeatLast →
          pin = some (s.mixer.lastEmitted.row i ++ 0#8) ∧ last = s.mixer.lastEmitted.row i) ∧
        (held → (f.slots.row i).hold = .zero → pin = some 0 ∧ last = 0)))

/-! ## Sample memory, capture, players and watches at a frame -/

/-- R52, R105, R153, R154, R156, R158: the frame step of a player. A PLAYING one gives the sample at its position and moves on,
at the end of a pass counting it and starting again while passes are left, and PLAYER_NATURAL_END completes at the
last sample of the last pass: that sample is given, the player is IDLE, its region has one user less and PLAYER_DONE
is posted. The posting is a part of the event of its own, before or after the mixer's, the watches' and the capture's
(the list of parts is the model's record, assumptions 3 and 20); what is still to be posted when a request is taken is
posted first (`FencedRequestsWait`), player 0 first (DESIGN CHOICE, assumption 29). An IDLE one gives 0. -/
def Obligations.PlayerFrameStep : Prop :=
  ∀ (s : State) (c : FrameCtx) (p : PlayerNo) (id : RegionNo) (r : Region), s.frame = some c →
    let q := s.players.row p
    let x := s.word (r.logical q.position)
    let given := some { c with given := c.given.put p x }
    (q.playing = false →
      s.playerStep p = (s.setFrame (some { c with given := c.given.put p 0 })).setPlayers
        (s.players.put p { q with sample := 0 })) ∧
    (q.playing = true → q.region = some id → s.regions.row id = some r → q.position + 1 < r.valid →
      s.playerStep p = (s.setFrame given).setPlayers
        (s.players.put p { q with position := q.position + 1, sample := x })) ∧
    (q.playing = true → q.region = some id → s.regions.row id = some r → q.position + 1 = r.valid → q.loops ≠ 1 →
      s.playerStep p = (s.setFrame given).setPlayers
        (s.players.put p { q with
          position := 0, sample := x, passes := satInc q.passes
          loops := if q.loops = 0 then 0 else q.loops - 1 })) ∧
    (q.playing = true → q.region = some id → s.regions.row id = some r → q.position + 1 = r.valid → q.loops = 1 →
      let ended : State := ((s.setPlayers (s.players.put p { q with
          playing := false, position := 0, loops := 0, passes := satInc q.passes, sample := 0 })).setRegions
          (s.regions.put id (some { r with use := match r.use with
            | .playing n => if n ≤ 1 then .ready else .playing (n - 1)
            | u => u })))
      s.playerStep p = ended.setFrame (some { c with
        given := c.given.put p x, ended := c.ended.put p (some (id, satInc q.passes)) }) ∧
      (s.atPhase c (.player p) → .playerNotice p ∈ c.todo → c.todo.Nodup →
        exec (.playerNaturalEnd p) s = .next
          ((ended.post (.playerDone p s.now id (satInc q.passes))).setFrame (some { c with
            given := c.given.put p x, ended := c.ended.put p none
            todo := (c.todo.erase (.player p)).erase (.playerNotice p) })).closeEvent)) ∧
    (∀ passes, c.ended.row p = some (id, passes) →
      s.runPhase (.playerNotice p) =
        (s.post (.playerDone p s.now id passes)).setFrame (some { c with ended := c.ended.put p none })) ∧
    (c.ended.row p = none → s.runPhase (.playerNotice p) = s) ∧
    (∃ e, s.postEnds = { s with
        frame := some { c with ended := e }
        notices := ([0, 1] : List PlayerNo).foldl (fun n p => match c.ended.row p with
          | none => n
          | some (id, passes) => n.post (.playerDone p s.now id passes)) s.notices } ∧
      ∀ p : PlayerNo, e.row p = none) ∧
    Phase.mustPrecede (.player p) (.playerNotice p) = true ∧
    ∀ other : Phase, other = .mixer ∨ (∃ w, other = .watch w) ∨ other = .capture →
      Phase.mustPrecede (.playerNotice p) other = false ∧ Phase.mustPrecede other (.playerNotice p) = false

/-- R163, R164, R165, R166, R167: the magnitude of a sample and the two conditions of each sense, which no magnitude meets
together while the release stands as SET WATCH requires; the settings that never clear. The evaluation of a watch at a
frame arrival: a run of evaluations that meet the condition reaches ALERTED at the duration, posts WATCH_STATE and hands
over its trigger; in ALERTED only the clear condition moves it, and posts; a DISARMED watch does nothing. -/
def Obligations.WatchEvaluation : Prop :=
  (∀ x : Sample, (x ≠ 0x800000 → (magnitude x : Int) = |x.toInt|) ∧ magnitude 0x800000 = 8388607 ∧
    magnitude x ≤ 8388607) ∧
  (∀ (p : WatchParams) (m : Nat), p.sense = .above →
    (p.condition m = true ↔ p.threshold.toNat ≤ m) ∧ (p.clears m = true ↔ m < p.release.toNat) ∧
    (p.release.toNat ≤ p.threshold.toNat → ¬ (p.condition m = true ∧ p.clears m = true)) ∧
    (p.release.toNat ≤ m → m < p.threshold.toNat → p.condition m = false ∧ p.clears m = false)) ∧
  (∀ (p : WatchParams) (m : Nat), p.sense = .below →
    (p.condition m = true ↔ m ≤ p.threshold.toNat) ∧ (p.clears m = true ↔ p.release.toNat < m) ∧
    (p.threshold.toNat ≤ p.release.toNat → ¬ (p.condition m = true ∧ p.clears m = true)) ∧
    (p.threshold.toNat < m → m ≤ p.release.toNat → p.condition m = false ∧ p.clears m = false)) ∧
  (∀ (p : WatchParams) (m : Nat), p.release = p.threshold → (p.condition m = true ↔ p.clears m = false)) ∧
  (∀ (p : WatchParams) (x : Sample), p.sense = .above → p.threshold = 0 → p.release.toNat ≤ p.threshold.toNat →
    p.condition (magnitude x) = true ∧ p.clears (magnitude x) = false) ∧
  (∀ (p : WatchParams) (x : Sample), p.sense = .below → p.threshold = 8388607 →
    p.threshold.toNat ≤ p.release.toNat → p.condition (magnitude x) = true ∧ p.clears (magnitude x) = false) ∧
  (∀ (p : WatchParams) (x : Sample), p.sense = .below → p.threshold = 0 → (p.condition (magnitude x) = true ↔ x = 0)) ∧
  ∀ (s : State) (c : FrameCtx) (w : WatchNo) (p : WatchParams), s.frame = some c →
    (s.watches.row w).params = some p → 1 ≤ p.duration →
    let r := s.watches.row w
    let m := magnitude (c.value p.subject)
    let run := if r.state = .clear then 1 else r.run + 1
    (r.state = .disarmed → s.watchStep c w = s) ∧
    (r.state = .clear ∨ r.state = .pending →
      (p.condition m = true → run < p.duration →
        s.watchStep c w = s.setWatches (s.watches.put w { r with state := .pending, run := run })) ∧
      (p.condition m = true → run = p.duration →
        s.watchStep c w =
          (((s.setWatches (s.watches.put w { r with state := .alerted, run := p.duration })).post
            (.watchState w s.now true p.subject m)).setFrame (some { c with alerts := w :: c.alerts }))) ∧
      (p.condition m = false →
        s.watchStep c w = s.setWatches (s.watches.put w { r with state := .clear, run := 0 }))) ∧
    (r.state = .alerted →
      (p.clears m = true →
        s.watchStep c w =
          (s.setWatches (s.watches.put w { r with state := .clear, run := 0 })).post
            (.watchState w s.now false p.subject m)) ∧
      (p.clears m = false → s.watchStep c w = s))

/-- R138, R139, R140, R141, R145, R146, R148: a store of a running capture with no trigger at the frame. FILLING and POST
write the subject's value at the write offset and count it; a RING wraps at the length; CAPTURE_FULL and
CAPTURE_POST_DONE complete at the store that ends the capture, which leaves it IDLE with its reason, the region READY
with what was written, and CAPTURE_STATE posted. -/
def Obligations.CaptureStores : Prop :=
  (∀ (k : Capture) (valid oldest : Nat), k.report valid oldest =
    { state := k.state, endReason := k.endReason, region := k.region.getD 0, written := k.written
      triggerOffset := k.triggerOffset, valid := valid, oldest := oldest, holdoverFrames := k.holdoverFrames
      startFrame := k.startFrame }) ∧
  ∀ (s : State) (c : FrameCtx) (id : RegionNo) (r : Region) (sub : Subject),
    s.capture.region = some id → s.regions.row id = some r → s.capture.subject = some sub →
    (∀ w, s.capture.trigger = some (.watch w) → c.kind = .arrival → w ∉ c.alerts) →
    let k := s.capture
    let next := k.writeOffset + 1
    let mem := s.memory.write ((r.base + k.writeOffset) % 8192) (c.value sub)
    let stored (offset : Nat) : Capture := { k with
      writeOffset := offset, written := min r.length (k.written + 1)
      startFrame := if k.written = 0 then some s.now else k.startFrame
      holdoverFrames := if c.kind = .emitted then satInc k.holdoverFrames else k.holdoverFrames }
    let ringNext := if next = r.length then 0 else next
    (k.state = .armed → s.captureStep c = s) ∧
    (k.state = .filling → k.mode = some .once → next < r.length →
      s.captureStep c = (s.setMemory mem).setCapture (stored next)) ∧
    (k.state = .filling → k.mode = some .ring →
      s.captureStep c = (s.setMemory mem).setCapture (stored ringNext)) ∧
    (k.state = .post → k.mode = some .ring → 2 ≤ k.postRemaining →
      s.captureStep c = (s.setMemory mem).setCapture { stored ringNext with postRemaining := k.postRemaining - 1 }) ∧
    (k.state = .filling → k.mode = some .once → next = r.length → s.atPhase c .capture →
      ∃ t, exec .captureFull s = .next t ∧ t.memory = mem ∧
        t.capture = { stored next with state := .idle, endReason := some .full } ∧
        t.regions = s.regions.put id (some { r with use := .ready, valid := min r.length (k.written + 1), oldest := 0 }) ∧
        t.notices = s.notices.post (.captureState s.now (t.capture.report (min r.length (k.written + 1)) 0)) ∧
        t = { s with
          memory := t.memory, capture := t.capture, regions := t.regions, notices := t.notices
          frame := c.without .capture }) ∧
    (k.state = .post → k.mode = some .ring → k.postRemaining = 1 → s.atPhase c .capture →
      ∃ t, exec .capturePostDone s = .next t ∧ t.memory = mem ∧
        t.capture = { stored ringNext with state := .idle, endReason := some .postDone, postRemaining := 0 } ∧
        t.regions = s.regions.put id (some { r with
          use := .ready, valid := min r.length (k.written + 1)
          oldest := if min r.length (k.written + 1) = r.length then ringNext else 0 }) ∧
        t.notices = s.notices.post (.captureState s.now (t.capture.report (min r.length (k.written + 1))
          (if min r.length (k.written + 1) = r.length then ringNext else 0))) ∧
        t = { s with
          memory := t.memory, capture := t.capture, regions := t.regions, notices := t.notices
          frame := c.without .capture })

/-- R142, R143, R144, R145: a trigger handed over at a frame arrival by the watch the capture waits on. ARMED enters FILLING
and stores the frame's sample as the first of the region, which with length 1 stops it FULL; a RING in FILLING enters
POST and stores it as the first post-trigger sample, stops with POST_DONE after it where the post count is 1, and with
post count 0 stops and stores nothing; POST, and an ONCE capture in FILLING, go on as without it. That a notice of an entry
reports the record as the trigger frame's own store leaves it is DEDUCED (assumption 25). The trigger of this arrival is taken
also by a capture started at it after the watch entered ALERTED (R137, R142, R171; DEDUCED, assumption 33). -/
def Obligations.CaptureTakesItsTrigger : Prop :=
  ∀ (s : State) (c : FrameCtx) (id : RegionNo) (r : Region) (sub : Subject) (w : WatchNo),
    s.capture.region = some id → s.regions.row id = some r → s.capture.subject = some sub →
    s.capture.trigger = some (.watch w) → c.kind = .arrival → w ∈ c.alerts →
    let k := s.capture
    let t := s.captureStep c
    let offset := if k.writeOffset + 1 = r.length then 0 else k.writeOffset + 1
    let written := min r.length (k.written + 1)
    let oldest := if written = r.length then offset else 0
    let post : Capture := { k with
      state := .post, triggerOffset := some k.writeOffset, postRemaining := k.postCount - 1, writeOffset := offset
      written := written, startFrame := if k.written = 0 then some s.now else k.startFrame }
    let first : Capture := { k with
      state := .filling, triggerOffset := some 0, writeOffset := 1, written := 1, startFrame := some s.now }
    (k.state = .armed → k.mode = some .once → k.writeOffset = 0 → k.written = 0 →
      t.memory = s.memory.write (r.base % 8192) (c.value sub) ∧
      (2 ≤ r.length → t.capture = first ∧ t.regions = s.regions ∧
        t.notices = s.notices.post (.captureState s.now (t.capture.report 0 0))) ∧
      (r.length = 1 → t.capture = { first with state := .idle, endReason := some .full } ∧
        t.regions = s.regions.put id (some { r with use := .ready, valid := 1, oldest := 0 }) ∧
        t.notices = s.notices.post (.captureState s.now (t.capture.report 1 0)))) ∧
    (k.state = .filling → k.mode = some .ring → 1 ≤ k.postCount →
      t.memory = s.memory.write ((r.base + k.writeOffset) % 8192) (c.value sub) ∧
      (2 ≤ k.postCount → t.capture = post ∧ t.regions = s.regions ∧
        t.notices = s.notices.post (.captureState s.now (t.capture.report 0 0))) ∧
      (k.postCount = 1 → t.capture = { post with state := .idle, endReason := some .postDone } ∧
        t.regions = s.regions.put id (some { r with use := .ready, valid := written, oldest := oldest }) ∧
        t.notices = s.notices.post (.captureState s.now (t.capture.report written oldest)))) ∧
    (k.state = .filling → k.mode = some .ring → k.postCount = 0 →
      let kept := if k.written = r.length then k.writeOffset else 0
      t.capture = { k with state := .idle, triggerOffset := some k.writeOffset, endReason := some .postDone } ∧
      t.memory = s.memory ∧
      t.regions = s.regions.put id (some { r with use := .ready, valid := k.written, oldest := kept }) ∧
      t.notices = s.notices.post (.captureState s.now (t.capture.report k.written kept))) ∧
    (k.state = .post ∨ (k.state = .filling ∧ k.mode = some .once) → t = s.captureStep { c with alerts := [] }) ∧
    t = { s with memory := t.memory, capture := t.capture, regions := t.regions, notices := t.notices }

/-! ## The requests

The statements about requests hold in every timing state: that a request message may be accepted outside LOCKED too is the
model's choice (DESIGN CHOICE, assumption 6); R28 accepts one at a frame arrival in LOCKED alone. -/

/-- R42, R69, R91, R124, R126, R128, R136, R168, R176, R183, R184, R185: a request whose header has a reserved bit set,
whose body has not the length of its code or of the count it carries, whose body has a reserved bit set, or a field of which
holds a value that the field table or the request's own rule refuses, is answered BAD_FIELD with an empty body and changes
nothing else. The list gives, code by code and word by word, the payload bits that the table of R185 leaves reserved. In
every timing state (DESIGN CHOICE, assumption 6). -/
def Obligations.CommonChecksRefuse : Prop :=
  ∀ (s : State) (code : Code) (r : Req), s.takesAtOnce r.tag → 1 ≤ code.toNat → code.toNat ≤ 32 →
    (r.hdrReserved = true → s.deliver code r = s.answered r.tag .badField []) ∧
    (code.toNat ∈ [1, 10, 13, 17, 23, 25, 26, 29, 32] → r.body ≠ [] →
      s.deliver code r = s.answered r.tag .badField []) ∧
    (code.toNat ∈ [2, 3, 4, 5, 6, 7, 9, 11, 12, 14, 15, 16, 18, 20, 22, 27, 28, 31] → r.body.length ≠ 1 →
      s.deliver code r = s.answered r.tag .badField []) ∧
    (code.toNat ∈ [19, 24] → r.body.length ≠ 2 → s.deliver code r = s.answered r.tag .badField []) ∧
    (code.toNat = 30 → r.body.length ≠ 4 → s.deliver code r = s.answered r.tag .badField []) ∧
    (code.toNat = 8 ∨ code.toNat = 21 → r.body = [] → s.deliver code r = s.answered r.tag .badField []) ∧
    (∀ w ws, r.body = w :: ws →
      (code.toNat = 8 ∧ (4 < (fld w 0 3).toNat ∨ ws.length ≠ (fld w 0 3).toNat ∨ fld w 15 2 = 3 ∨
          ∃ x ∈ ws, 66 ≤ (fld x 17 7).toNat)) ∨
      (code.toNat = 21 ∧
          ((fld w 0 6).toNat = 0 ∨ 48 ≤ (fld w 0 6).toNat ∨ ws.length ≠ (fld w 0 6).toNat)) →
      s.deliver code r = s.answered r.tag .badField []) ∧
    (∀ w, r.body = [w] →
      (code.toNat = 3 ∧ (fld w 0 2 = 0 ∨ fld w 0 2 = 3)) ∨
      (code.toNat = 6 ∧ fld w 0 5 ≠ 8 ∧ fld w 0 5 ≠ 16) ∨
      (code.toNat = 9 ∧ w.getLsbD 0 = true ∧ fld w 18 6 ≠ 0) ∨
      (code.toNat = 12 ∧ w.getLsbD 16 = true ∧ fld w 0 16 = 0) ∨
      (code.toNat = 15 ∧ ((fld w 17 4).toNat ∉ [1, 2, 4, 8] ∨ 64 < (fld w 10 7).toNat)) ∨
      (code.toNat = 22 ∧ ((fld w 0 6).toNat = 0 ∨ 48 ≤ (fld w 0 6).toNat)) →
      s.deliver code r = s.answered r.tag .badField []) ∧
    (∀ w v, r.body = [w, v] →
      (code.toNat = 19 ∧ ((fld v 0 14).toNat = 0 ∨ 8192 < (fld w 0 13).toNat + (fld v 0 14).toNat)) ∨
      (code.toNat = 24 ∧
        (fld w 16 2 = 3 ∨ (fld w 16 2 = 2 ∧ 2 ≤ (fld w 10 6).toNat) ∨ 2 ≤ (fld w 8 2).toNat ∨
          2 ≤ (fld w 6 2).toNat ∨ (fld w 6 2 = 0 ∧ fld w 2 4 ≠ 0) ∨ 8192 < (fld v 0 14).toNat)) →
      s.deliver code r = s.answered r.tag .badField []) ∧
    (∀ w threshold release last, r.body = [w, threshold, release, last] → code.toNat = 30 →
      fld w 16 2 = 3 ∨ (fld w 16 2 = 2 ∧ 2 ≤ (fld w 10 6).toNat) ∨
      (fld last 0 13).toNat = 0 ∨ 4096 < (fld last 0 13).toNat ∨
      (w.getLsbD 8 = false ∧ (fld threshold 0 23).toNat < (fld release 0 23).toNat) ∨
      (w.getLsbD 8 = true ∧ (fld release 0 23).toNat < (fld threshold 0 23).toNat) →
      s.deliver code r = s.answered r.tag .badField []) ∧
    ∀ row ∈ ([(2, [0xFFFFFE]), (3, [0xFFFFFC]), (4, [0xFFFF00]), (5, [0xFFC0C0]), (6, [0xFFFCE0]), (7, [0xFFFF00]),
        (8, [0x000FF8, 0x0000FF, 0x0000FF, 0x0000FF, 0x0000FF]), (9, [0x03FFFE]), (11, [0x03FFF7]), (12, [0xFE0000]),
        (14, [0x0000FF]), (15, [0x0003FF]), (16, [0x1FFDFF]), (18, [0xFFFFFE]), (19, [0x1FE000, 0xFFC000]),
        (20, [0x1FFFFF]), (21, [0x0000C0]), (22, [0x0000C0]), (24, [0xE00003, 0xFFC000]), (27, [0x63FF00]),
        (28, [0x7FFFFF]), (30, [0x0C02FF, 0x800000, 0x800000, 0xFFE000]), (31, [0x0FFFFF])] :
        List (Nat × List Payload)),
      code.toNat = row.1 → ∀ (i : Nat) (w m : Payload), r.body[i]? = some w → row.2[i]? = some m → w &&& m ≠ 0 →
        s.deliver code r = s.answered r.tag .badField []

/-- R91, R124, R168, R183, R185: the fields of every request body, laid out at the bit places of the table, are the fields
the Executor reads, for every value the rules allow: the record words of a STAGE ROUTE, the samples of a WRITE REGION, the
subject, mode and trigger of a START CAPTURE, the parameters of a SET WATCH, the scope of a RESET, and all the others. Each
request command is the request of its code. -/
def Obligations.RequestBodiesReadBack : Prop :=
  let kind : Subject → BitVec 2
    | .input _ => 0
    | .output _ => 1
    | .player _ => 2
  let number : Subject → BitVec 6
    | .input n => n
    | .output n => n
    | .player p => 0#5 ++ p
  (∀ (s : State) (r : Req), ∀ row ∈
      ([(.identify, 1), (.readStatus, 2), (.setNoticeMask, 4), (.moveLink, 5), (.setFrameFormat, 6), (.setLanes, 7),
        (.stageRoute, 8), (.stageClear, 9), (.stageFromActive, 10), (.readRoute, 11), (.commit, 12), (.cancelCommit, 13),
        (.setGain, 14), (.setGroup, 15), (.groupMute, 16), (.readGroups, 17), (.readClips, 18), (.defineRegion, 19),
        (.releaseRegion, 20), (.writeRegion, 21), (.readRegion, 22), (.readRegions, 23), (.startCapture, 24),
        (.stopCapture, 25), (.readCapture, 26), (.startPlayer, 27), (.stopPlayer, 28), (.readPlayers, 29),
        (.setWatch, 30), (.clearWatch, 31), (.readWatches, 32)] : List ((Req → Instr) × Code)),
    exec (row.1 r) s = .next (s.deliver row.2 r)) ∧
  (∀ (s : State) (tag : Tag) (hdrReserved : Bool),
    exec (.resetRouting tag hdrReserved) s = .next (s.deliver 3 ⟨tag, hdrReserved, [1]⟩) ∧
    exec (.resetFull tag hdrReserved) s = .next (s.deliver 3 ⟨tag, hdrReserved, [2]⟩)) ∧
  (∀ (w : Payload) (lo n : Nat), fld w lo n = w.extractLsb' lo n) ∧
  readNone [] = some () ∧
  readScope [0#22 ++ 1#2] = some .routing ∧ readScope [0#22 ++ 2#2] = some .full ∧
  (∀ (slot : Slot) (driven : Bool) (hold : Hold) (g : GroupNo) (list : List Contrib),
    list.length ≤ 4 → (∀ c ∈ list, c.source.toNat ≤ 65) →
    readStageRoute
      ((slot ++ BitVec.ofBool driven ++ (match hold with
          | .live => 0#2
          | .repeatLast => 1#2
          | .zero => 2#2) ++ g ++ 0#9 ++ BitVec.ofNat 3 list.length) ::
        list.map fun c => c.source ++ c.target ++ BitVec.ofBool (c.polarity == .inverted) ++ 0#8) =
      some ⟨slot, if driven then .driven else .released, hold, g, list⟩) ∧
  (∀ (id : RegionNo) (offset : BitVec 13) (xs : List Sample), 1 ≤ xs.length → xs.length ≤ 47 →
    readWriteRegion ((id ++ offset ++ 0#2 ++ BitVec.ofNat 6 xs.length) :: xs) = some (id, offset.toNat, xs)) ∧
  (∀ (id : RegionNo) (sub : Subject) (ring : Bool) (trigger : Trigger) (post : BitVec 14), post.toNat ≤ 8192 →
    readStartCapture
      [0#3 ++ id ++ kind sub ++ number sub ++ 0#1 ++ BitVec.ofBool ring ++ (match trigger with
          | .immediate => 0#6
          | .watch w => 0#1 ++ 1#1 ++ w) ++ 0#2,
        0#10 ++ post] =
      some ⟨id, sub, if ring then .ring else .once, trigger, post.toNat⟩) ∧
  (∀ (w : WatchNo) (sub : Subject) (below : Bool) (threshold release : BitVec 23) (duration : BitVec 13),
    1 ≤ duration.toNat → duration.toNat ≤ 4096 →
    (if below then threshold.toNat ≤ release.toNat else release.toNat ≤ threshold.toNat) →
    readSetWatch
      [w ++ 0#2 ++ kind sub ++ number sub ++ 0#1 ++ BitVec.ofBool below ++ 0#8, 0#1 ++ threshold, 0#1 ++ release,
        0#11 ++ duration] =
      some (w, ⟨sub, if below then .below else .above, threshold, release, duration.toNat⟩)) ∧
  (∀ clear : Bool, readClear [0#23 ++ BitVec.ofBool clear] = some clear) ∧
  (∀ mask : BitVec 8, readMask [0#16 ++ mask] = some mask) ∧
  (∀ inb outb : Slot, readMoveLink [0#10 ++ inb ++ 0#2 ++ outb] = some (inb, outb)) ∧
  (∀ sense delay : Bool, ∀ sixteen : Bool,
    readFormat [0#14 ++ BitVec.ofBool sense ++ BitVec.ofBool delay ++ 0#3 ++ (if sixteen then 16#5 else 8#5)] =
      some ⟨sixteen, delay, if sense then .activeLow else .activeHigh⟩) ∧
  (∀ ins outs : BitVec 4, readLanes [0#16 ++ ins ++ outs] = some (ins, outs)) ∧
  (∀ (source : Source) (target : Gain) (inverted : Bool), source.toNat ≤ 65 →
    readContrib (source ++ target ++ BitVec.ofBool inverted ++ 0#8) =
      some ⟨source, target, if inverted then .inverted else .normal⟩) ∧
  (∀ (source : Source) (target : Gain) (inverted : Bool), 66 ≤ source.toNat →
    readContrib (source ++ target ++ BitVec.ofBool inverted ++ 0#8) = none) ∧
  (∀ slot : Slot, readStageClear [slot ++ 0#18] = some (some slot)) ∧ readStageClear [1] = some none ∧
  (∀ (slot : Slot) (bank : Bool), readReadRoute [slot ++ 0#14 ++ BitVec.ofBool bank ++ 0#3] = some (slot, bank)) ∧
  (∀ limit : BitVec 16, readCommit [0#8 ++ limit] = some (.none, limit)) ∧
  (∀ limit : BitVec 16, readCommit [0#7 ++ 1#1 ++ limit] = if limit = 0 then none else some (.rampsIdle, limit)) ∧
  (∀ (slot : Slot) (k : BitVec 2) (code : Gain), readSetGain [slot ++ k ++ code ++ 0#8] = some (slot, k, code)) ∧
  (∀ (g : GroupNo) (step : BitVec 4) (interval : BitVec 7),
    readSetGroup [g ++ step ++ interval ++ 0#10] =
      if (step = 1 ∨ step = 2 ∨ step = 4 ∨ step = 8) ∧ interval.toNat ≤ 64 then
        some (g, step.toNat, interval.toNat) else none) ∧
  (∀ (g : GroupNo) (muted : Bool), readGroupMute [g ++ 0#11 ++ BitVec.ofBool muted ++ 0#9] = some (g, muted)) ∧
  (∀ (id : RegionNo) (base : BitVec 13) (length : BitVec 14),
    readDefineRegion [id ++ 0#8 ++ base, 0#10 ++ length] =
      if 1 ≤ length.toNat ∧ base.toNat + length.toNat ≤ 8192 then some (id, base.toNat, length.toNat) else none) ∧
  (∀ id : RegionNo, readRegionId [id ++ 0#21] = some id) ∧
  (∀ (id : RegionNo) (offset : BitVec 13) (count : BitVec 6),
    readReadRegion [id ++ offset ++ 0#2 ++ count] =
      if 1 ≤ count.toNat ∧ count.toNat ≤ 47 then some (id, offset.toNat, count.toNat) else none) ∧
  (∀ (p : PlayerNo) (id : RegionNo) (loops : BitVec 8),
    readStartPlayer [p ++ 0#2 ++ id ++ 0#10 ++ loops] = some (p, id, loops)) ∧
  (∀ p : PlayerNo, readPlayerNo [p ++ 0#23] = some p) ∧
  (∀ w : WatchNo, readWatchNo [w ++ 0#20] = some w)

/-- R183, R185, R187, R188: the words and bit places of the group, region, capture, player and watch records and of a
position pair. With them, the codes that the tables give to states, causes, reasons, kinds, statuses, gates and
senses, and the words and bit places of the body of every kind of notice. -/
def Obligations.RecordsCarryTheirFields : Prop :=
  (TimingState.search.code = 0 ∧ TimingState.confirm.code = 1 ∧ TimingState.locked.code = 2 ∧
    TimingState.holdover.code = 3) ∧
  (Cause.confirmed.code = 0 ∧ Cause.returned.code = 1 ∧ Cause.fsyncMissing.code = 2 ∧ Cause.fsyncEarly.code = 3 ∧
    Cause.holdoverExpired.code = 4 ∧ Cause.clockAbsent.code = 5 ∧ Cause.formatChange.code = 6) ∧
  (Reason.sequence.code = 0 ∧ Reason.interrupted.code = 1 ∧ Reason.gap.code = 2 ∧ Reason.lockLost.code = 3 ∧
    Reason.linkMoved.code = 4) ∧
  (∀ (i : Nat) (st : Status),
    ([.done, .busy, .duplicateTag, .badTrailer, .badLength, .badCrc, .unknownCode, .badField, .slotReserved, .slotInUse,
      .laneDisabled, .laneHoldsLink, .linkSlotAbsent, .stageLocked, .commitPending, .noCommit, .commitCancelled,
      .rampTimeout, .positionEmpty, .regionDefined, .regionUndefined, .regionOverlap, .regionBusy, .outOfRegion,
      .emptyRegion, .captureBusy, .notRunning, .playerBusy, .watchInUse] : List Status)[i]? = some st →
    st.code.toNat = i) ∧
  (Drive.released.code = 0 ∧ Drive.driven.code = 1 ∧ Hold.live.code = 0 ∧ Hold.repeatLast.code = 1 ∧
    Hold.zero.code = 2) ∧
  (Gate.none.code = 0 ∧ Gate.rampsIdle.code = 1 ∧ Sense.activeHigh.code = 0 ∧ Sense.activeLow.code = 1) ∧
  (Polarity.normal.code = 0 ∧ Polarity.inverted.code = 1 ∧ WatchSense.above.code = 0 ∧ WatchSense.below.code = 1) ∧
  (CaptureState.idle.code = 0 ∧ CaptureState.armed.code = 1 ∧ CaptureState.filling.code = 2 ∧
    CaptureState.post.code = 3) ∧
  (endReasonCode none = 0 ∧ endReasonCode (some .full) = 1 ∧ endReasonCode (some .postDone) = 2 ∧
    endReasonCode (some .stopped) = 3 ∧ endReasonCode (some .aborted) = 4) ∧
  (WatchState.disarmed.code = 0 ∧ WatchState.clear.code = 1 ∧ WatchState.pending.code = 2 ∧
    WatchState.alerted.code = 3) ∧
  (modeCode (some .once) = 0 ∧ modeCode (some .ring) = 1 ∧ modeCode none = 3 ∧ triggerCode none = 3 ∧
    triggerCode (some .immediate) = 0 ∧ triggerWatch none = 0 ∧ triggerWatch (some .immediate) = 0 ∧
    ∀ w : WatchNo, triggerCode (some (.watch w)) = 1 ∧ triggerWatch (some (.watch w)) = w) ∧
  (subjectKind none = 3 ∧ subjectNumber none = 0 ∧ (∀ n : Slot, subjectKind (some (.input n)) = 0 ∧
    subjectNumber (some (.input n)) = n ∧ subjectKind (some (.output n)) = 1 ∧ subjectNumber (some (.output n)) = n) ∧
    ∀ p : PlayerNo, subjectKind (some (.player p)) = 2 ∧ subjectNumber (some (.player p)) = 0#5 ++ p) ∧
  -- the three words every notice body begins with
  (∀ (n : Notice) (lost : BitVec 8), ∃ w0 w1 w2, n.body lost = [w0, w1, w2] ++ n.val.words ∧
    fld w0 16 8 = lost ∧ fld w0 8 8 = n.count ∧ fld w0 0 8 = BitVec.ofNat 8 n.val.subject ∧
    w1 = n.val.frame.extractLsb' 0 24 ∧ fld w2 0 8 = n.val.frame.extractLsb' 24 8 ∧ fld w2 8 16 = 0) ∧
  -- the words of each kind from w3 on
  (∀ (f : FrameNo) (st : TimingState) (cause : Cause) (absent : Bool), let v := NoticeVal.frameState f st cause absent
    v.kind = 1 ∧ v.subject = 0 ∧ v.frame = f ∧ ∃ w3, v.words = [w3] ∧ fld w3 22 2 = st.code ∧
      fld w3 19 3 = cause.code ∧ w3.getLsbD 18 = absent ∧ fld w3 0 18 = 0) ∧
  (∀ (f : FrameNo) (dropped : Nat) (discarded : Bool), let v := NoticeVal.linkResync f dropped discarded
    v.kind = 2 ∧ v.subject = 0 ∧ v.frame = f ∧ ∃ w3, v.words = [w3] ∧ w3.getLsbD 23 = discarded ∧
      fld w3 0 3 = BitVec.ofNat 3 dropped ∧ fld w3 3 20 = 0) ∧
  (∀ (f : FrameNo) (reason : Reason) (tag : Tag) (stored : Nat), let v := NoticeVal.inboundAbandoned f reason tag stored
    v.kind = 3 ∧ v.subject = 0 ∧ v.frame = f ∧ ∃ w3, v.words = [w3] ∧ fld w3 21 3 = reason.code ∧
      fld w3 15 6 = tag ∧ fld w3 0 6 = BitVec.ofNat 6 stored ∧ fld w3 6 9 = 0) ∧
  (∀ (g : GroupNo) (f : FrameNo), let v := NoticeVal.rampDone g f
    v.kind = 4 ∧ v.subject = g.toNat ∧ v.frame = f ∧ v.words = []) ∧
  (∀ (w : WatchNo) (f : FrameNo) (alerted : Bool) (sub : Subject) (m : Nat),
    let v := NoticeVal.watchState w f alerted sub m
    v.kind = 5 ∧ v.subject = w.toNat ∧ v.frame = f ∧ ∃ w3 w4, v.words = [w3, w4] ∧ w3.getLsbD 23 = alerted ∧
      fld w3 20 2 = subjectKind (some sub) ∧ fld w3 14 6 = subjectNumber (some sub) ∧ w3.getLsbD 22 = false ∧
      fld w3 0 14 = 0 ∧ fld w4 0 23 = BitVec.ofNat 23 m ∧ w4.getLsbD 23 = false) ∧
  (∀ (f : FrameNo) (r : CaptureReport), let v := NoticeVal.captureState f r
    v.kind = 6 ∧ v.subject = 0 ∧ v.frame = f ∧ ∃ w3 w4 w5 w6 w7 w8 w9, v.words = [w3, w4, w5, w6, w7, w8, w9] ∧
      fld w3 22 2 = r.state.code ∧ w3.getLsbD 21 = false ∧ fld w3 18 3 = r.region ∧
      fld w3 15 3 = endReasonCode r.endReason ∧ w3.getLsbD 14 = r.triggerOffset.isSome ∧
      w3.getLsbD 13 = r.startFrame.isSome ∧ fld w3 0 13 = BitVec.ofNat 13 (r.triggerOffset.getD 0) ∧
      w4 = 0#10 ++ BitVec.ofNat 14 r.written ∧ w5 = 0#10 ++ BitVec.ofNat 14 r.valid ∧
      w6 = 0#11 ++ BitVec.ofNat 13 r.oldest ∧ w7 = 0#8 ++ r.holdoverFrames ∧
      w8 = (r.startFrame.getD 0).extractLsb' 0 24 ∧ w9 = 0#16 ++ (r.startFrame.getD 0).extractLsb' 24 8) ∧
  (∀ (p : PlayerNo) (f : FrameNo) (region : RegionNo) (passes : BitVec 16),
    let v := NoticeVal.playerDone p f region passes
    v.kind = 7 ∧ v.subject = p.toNat ∧ v.frame = f ∧ ∃ w3, v.words = [w3] ∧ fld w3 18 3 = region ∧
      fld w3 0 16 = passes ∧ fld w3 16 2 = 0 ∧ fld w3 21 3 = 0) ∧
  (∀ (f : FrameNo) (slots : List Slot) (overflow : Nat), let v := NoticeVal.clip f slots overflow
    v.kind = 8 ∧ v.subject = 0 ∧ v.frame = f ∧ ∃ w3 listed, v.words = w3 :: listed ∧
      fld w3 8 6 = BitVec.ofNat 6 slots.length ∧ fld w3 0 7 = BitVec.ofNat 7 overflow ∧ w3.getLsbD 7 = false ∧
      fld w3 14 10 = 0 ∧ listed.length = (slots.length + 3) / 4 ∧
      (∀ (i : Nat) (slot : Slot), slots[i]? = some slot →
        ∃ w, listed[i / 4]? = some w ∧ fld w (18 - 6 * (i % 4)) 6 = slot) ∧
      ∀ (i : Nat) (w : Payload), slots.length ≤ i → listed[i / 4]? = some w → fld w (18 - 6 * (i % 4)) 6 = 0) ∧
  (∀ (g : GroupNo) (r : Group), ∃ g1 g2, Group.words g r = [g1, g2] ∧
    fld g1 21 3 = g ∧ fld g1 17 4 = BitVec.ofNat 4 r.step ∧ fld g1 10 7 = BitVec.ofNat 7 r.interval ∧
    g1.getLsbD 9 = r.muted ∧ fld g1 0 9 = 0 ∧
    fld g2 16 7 = BitVec.ofNat 7 r.countdown ∧ fld g2 0 9 = BitVec.ofNat 9 r.moving ∧ fld g2 9 7 = 0 ∧
    g2.getLsbD 23 = false) ∧
  (∀ (id : RegionNo) (r : Region), ∃ r1 r2 r3 r4, regionWords id (some r) = [r1, r2, r3, r4] ∧
    fld r1 21 3 = id ∧
    fld r1 19 2 = (match r.use with
      | .ready => 1
      | .playing _ => 2
      | .capturing => 3) ∧
    fld r1 17 2 = BitVec.ofNat 2 r.use.users ∧ fld r1 0 14 = BitVec.ofNat 14 r.length ∧
    r2 = 0#11 ++ BitVec.ofNat 13 r.base ∧ r3 = 0#10 ++ BitVec.ofNat 14 r.valid ∧
    r4 = 0#11 ++ BitVec.ofNat 13 r.oldest) ∧
  (∀ id : RegionNo, regionWords id none = [id ++ 0#21, 0, 0, 0]) ∧
  (∀ (c p : Contrib) (cur : Gain),
    Position.pair .empty = [0, 0] ∧
    (∃ pa pb, Position.pair (.steady c cur) = [pa, pb] ∧ fld pa 22 2 = 1 ∧ fld pa 15 7 = c.source ∧
      fld pa 14 1 = c.polarity.code ∧ fld pa 6 8 = c.target ∧ fld pa 4 2 = 0 ∧ fld pb 16 8 = cur ∧ fld pb 0 16 = 0) ∧
    (∃ pa pb, Position.pair (.ramping c cur) = [pa, pb] ∧ fld pa 22 2 = 2 ∧ fld pa 15 7 = c.source ∧
      fld pa 14 1 = c.polarity.code ∧ fld pa 6 8 = c.target ∧ fld pa 4 2 = 0 ∧ fld pb 16 8 = cur ∧ fld pb 0 16 = 0) ∧
    (∃ pa pb, Position.pair (.draining c cur (some p)) = [pa, pb] ∧ fld pa 22 2 = 3 ∧ fld pa 15 7 = c.source ∧
      fld pa 14 1 = c.polarity.code ∧ fld pa 6 8 = c.target ∧ fld pa 4 2 = 1 ∧ fld pb 16 8 = cur ∧
      fld pb 8 8 = p.target ∧ fld pb 1 7 = p.source ∧ fld pb 0 1 = p.polarity.code) ∧
    (∃ pa pb, Position.pair (.draining c cur none) = [pa, pb] ∧ fld pa 22 2 = 3 ∧ fld pa 15 7 = c.source ∧
      fld pa 14 1 = c.polarity.code ∧ fld pa 6 8 = c.target ∧ fld pa 4 2 = 2 ∧ fld pb 16 8 = cur ∧
      fld pb 0 16 = 0)) ∧
  (∀ k : Capture, ∃ c1 c2 c3 c4 c5 c6 c7 c8 c9, k.words = [c1, c2, c3, c4, c5, c6, c7, c8, c9] ∧
    fld c1 22 2 = k.state.code ∧ c1.getLsbD 21 = k.region.isSome ∧ fld c1 18 3 = k.region.getD 0 ∧
    fld c1 16 2 = subjectKind k.subject ∧ fld c1 10 6 = subjectNumber k.subject ∧
    fld c1 8 2 = modeCode k.mode ∧ fld c1 6 2 = triggerCode k.trigger ∧ fld c1 2 4 = triggerWatch k.trigger ∧
    fld c2 21 3 = endReasonCode k.endReason ∧ c2.getLsbD 20 = k.triggerOffset.isSome ∧
    c2.getLsbD 19 = k.startFrame.isSome ∧ fld c2 0 14 = BitVec.ofNat 14 k.postCount ∧
    fld c3 0 14 = BitVec.ofNat 14 k.writeOffset ∧ fld c4 0 14 = BitVec.ofNat 14 k.written ∧
    fld c5 0 14 = BitVec.ofNat 14 k.postRemaining ∧ fld c6 0 13 = BitVec.ofNat 13 (k.triggerOffset.getD 0) ∧
    fld c7 0 16 = k.holdoverFrames ∧ c8 = (k.startFrame.getD 0).extractLsb' 0 24 ∧
    fld c9 0 8 = (k.startFrame.getD 0).extractLsb' 24 8) ∧
  (∀ (p : PlayerNo) (r : Player), ∃ p1 p2 p3, Player.words p r = [p1, p2, p3, r.sample] ∧
    fld p1 23 1 = p ∧ p1.getLsbD 22 = r.playing ∧ p1.getLsbD 21 = r.region.isSome ∧
    fld p1 18 3 = r.region.getD 0 ∧ fld p1 0 8 = r.loops ∧ fld p2 0 16 = r.passes ∧
    fld p3 0 13 = BitVec.ofNat 13 r.position) ∧
  (∀ (w : WatchNo) (st : WatchState) (run : Nat) (previous : BitVec 2), ∃ x1 x2 x3 x5,
    Watch.words w ⟨st, none, run⟩ previous = [x1, x2, x3, 0, x5] ∧ fld x1 20 4 = w ∧ fld x1 18 2 = st.code ∧
    fld x1 16 2 = 3 ∧ fld x5 0 13 = BitVec.ofNat 13 run) ∧
  (∀ (w : WatchNo) (st : WatchState) (q : WatchParams) (run : Nat) (previous : BitVec 2), ∃ x1 x2 x3 x4 x5,
    Watch.words w ⟨st, some q, run⟩ previous = [x1, x2, x3, x4, x5] ∧
    fld x1 20 4 = w ∧ fld x1 18 2 = st.code ∧ fld x1 16 2 = subjectKind (some q.subject) ∧
    fld x1 10 6 = subjectNumber (some q.subject) ∧ fld x1 8 1 = q.sense.code ∧ fld x1 4 2 = previous ∧
    fld x2 0 23 = q.threshold ∧ fld x3 0 23 = q.release ∧ fld x4 0 13 = BitVec.ofNat 13 q.duration ∧
    fld x5 0 13 = BitVec.ofNat 13 run)

/-- R68, R98, R128, R129, R149, R159, R170, R173, R185: the requests that only read complete, whether or not a commit is
pending, with DONE and the body of the table, and change nothing but their own place. READ REGION is refused, in this
order, for an UNDEFINED region, a CAPTURING one, and words beyond the valid length. The first word of a READ ROUTE reply
and its record words have their fields at the bit places of the table. In every timing state (DESIGN CHOICE, assumption
6). -/
def Obligations.ReadRequestsChangeNothing : Prop :=
  ∀ (s : State) (r : Req), r.hdrReserved = false → s.takesAtOnce r.tag →
    (r.body = [] →
      exec (.identify r) s = .next (s.answered r.tag .done
        [0x2A7640, 1#8 ++ 0#2 ++ s.link.inb ++ 0#2 ++ s.link.outb, 0x404204, 0x080810, 0x040810, 8192]) ∧
      exec (.readGroups r) s = .next (s.answered r.tag .done
        ((Table.numbers 3).flatMap fun g => Group.words g (s.groups.row g))) ∧
      exec (.readRegions r) s = .next (s.answered r.tag .done
        ((Table.numbers 3).flatMap fun id => regionWords id (s.regions.row id))) ∧
      exec (.readCapture r) s = .next (s.answered r.tag .done s.capture.words) ∧
      exec (.readPlayers r) s = .next (s.answered r.tag .done
        (Player.words 0 (s.players.row 0) ++ Player.words 1 (s.players.row 1))) ∧
      exec (.readWatches r) s = .next (s.answered r.tag .done
        ((Table.numbers 4).flatMap fun w => Watch.brief (s.watches.row w)))) ∧
    (∀ (st : WatchState) (q : WatchParams) (run : Nat), ∃ v1 v2 v3,
      Watch.brief ⟨st, some q, run⟩ = [v1, v2, v3] ∧ fld v1 22 2 = st.code ∧
      fld v1 20 2 = subjectKind (some q.subject) ∧ fld v1 14 6 = subjectNumber (some q.subject) ∧
      fld v1 13 1 = q.sense.code ∧ fld v1 0 13 = BitVec.ofNat 13 run ∧ fld v2 0 23 = q.threshold ∧
      fld v3 0 23 = q.release) ∧
    (∀ (st : WatchState) (run : Nat), ∃ v1,
      Watch.brief ⟨st, none, run⟩ = [v1, 0, 0] ∧ fld v1 22 2 = st.code ∧ fld v1 20 2 = 3 ∧ fld v1 14 6 = 0 ∧
      fld v1 13 1 = 0 ∧ fld v1 0 13 = BitVec.ofNat 13 run) ∧
    (∀ (slot : Slot) (active : Bool), readReadRoute r.body = some (slot, active) →
      exec (.readRoute r) s = .next (s.answered r.tag .done
        (if active then
          routeHead slot (s.active.row slot).drive (s.active.row slot).hold (s.active.row slot).group false true 4
            :: (s.active.row slot).pos.toList.flatMap Position.pair
        else
          routeHead slot (s.staged.row slot).drive (s.staged.row slot).hold (s.staged.row slot).group
              (s.staged.row slot).dirty false (s.staged.row slot).list.length
            :: (s.staged.row slot).list.map Contrib.word))) ∧
    (∀ (slot : Slot) (drive : Drive) (hold : Hold) (g : GroupNo) (dirty active : Bool) (n : Nat),
      let w := routeHead slot drive hold g dirty active n
      fld w 18 6 = slot ∧ w.getLsbD 17 = (drive == .driven) ∧
      fld w 15 2 = (match hold with
        | .live => 0
        | .repeatLast => 1
        | .zero => 2) ∧
      fld w 12 3 = g ∧ w.getLsbD 11 = dirty ∧ fld w 4 7 = 0 ∧ w.getLsbD 3 = active ∧ fld w 0 3 = BitVec.ofNat 3 n) ∧
    (∀ c : Contrib, fld c.word 17 7 = c.source ∧ fld c.word 9 8 = c.target ∧
      c.word.getLsbD 8 = (c.polarity == .inverted) ∧ fld c.word 0 8 = 0) ∧
    (∀ (id : RegionNo) (offset count : Nat), readReadRegion r.body = some (id, offset, count) →
      (s.regions.row id = none → exec (.readRegion r) s = .next (s.answered r.tag .regionUndefined [])) ∧
      ∀ q, s.regions.row id = some q →
        (q.use = .capturing → exec (.readRegion r) s = .next (s.answered r.tag .regionBusy [])) ∧
        (q.use ≠ .capturing → q.valid < offset + count →
          exec (.readRegion r) s = .next (s.answered r.tag .outOfRegion [])) ∧
        (q.use ≠ .capturing → offset + count ≤ q.valid →
          exec (.readRegion r) s = .next (s.answered r.tag .done
            (r.body ++ (List.range count).map fun i => s.word (q.logical (offset + i))))))

/-- R115, R174, R175, R185: READ STATUS answers with the status as it stands; with clear the six counters become 0 after it, and
nothing else changes. READ CLIPS answers with the 64 counts and the number above 0; with clear every count becomes 0 and a
queued CLIP notice loses its list and its overflow, keeping its place, its count and its frame number. The 64 counts run on
through the 43 words after the first, 16 bits each from bit 23 of the first of them, slot 0 first, the last 8 bits 0. In
every timing state (DESIGN CHOICE, assumption 6). -/
def Obligations.CountersAnswerThenClear : Prop :=
  (∀ (s : State) (r : Req) (clear : Bool), r.hdrReserved = false → s.takesAtOnce r.tag →
     readClear r.body = some clear →
     (clear = false → exec (.readStatus r) s = .next (s.answered r.tag .done (statusWords s))) ∧
     (clear = true → exec (.readStatus r) s = .next
       (((s.setTiming { s.timing with lockLosses := 0, searchEntries := 0 }).setParser
         { s.parser with crcErrors := 0, abandoned := 0, discards := 0, stray := 0 }).answered r.tag .done
           (statusWords s))) ∧
     ∃ w0 w1 w2 w3 w4 w5 w6 w7 w8 w9 w10, statusWords s = [w0, w1, w2, w3, w4, w5, w6, w7, w8, w9, w10] ∧
       fld w0 22 2 = s.timing.state.code ∧ w0.getLsbD 21 = s.timing.clockAbsent ∧
       w0.getLsbD 20 = s.timing.format.sixteen ∧ w0.getLsbD 19 = s.timing.format.delayOne ∧
       fld w0 18 1 = s.timing.format.sense.code ∧ fld w0 14 4 = s.timing.inLanes ∧ fld w0 10 4 = s.timing.outLanes ∧
       w0.getLsbD 9 = s.commit.isSome ∧ fld w0 0 8 = s.notices.lost ∧
       (w1 : BitVec 24) = s.timing.frameNo.extractLsb' 0 24 ∧ fld w2 0 8 = s.timing.frameNo.extractLsb' 24 8 ∧
       (∀ k, s.commit = some k → fld w0 8 1 = k.gate.code ∧ fld w3 0 16 = k.limit ∧ fld w4 0 16 = k.elapsed) ∧
       fld w5 0 16 = s.timing.lockLosses ∧ fld w6 0 16 = s.timing.searchEntries ∧
       fld w7 0 16 = s.parser.crcErrors ∧ fld w8 0 16 = s.parser.abandoned ∧ fld w9 0 16 = s.parser.discards ∧
       fld w10 0 16 = s.parser.stray) ∧
  ∀ (s : State) (r : Req) (clear : Bool), r.hdrReserved = false → s.takesAtOnce r.tag →
    readClear r.body = some clear →
    let body : List Payload :=
      (0#17 ++ BitVec.ofNat 7 (s.mixer.clips.toList.countP fun x => x != 0)) :: pack16 s.mixer.clips.toList
    body.length = 44 ∧
    (∀ (i : Slot) (j : Nat), j < 16 → ∃ w, body[1 + (16 * i.toNat + j) / 24]? = some w ∧
      w.getLsbD (23 - (16 * i.toNat + j) % 24) = (s.mixer.clips.row i).getLsbD (15 - j)) ∧
    (∃ w, body[43]? = some w ∧ fld w 0 8 = 0) ∧
    (clear = false → exec (.readClips r) s = .next (s.answered r.tag .done body)) ∧
    (clear = true → ∃ t : State, exec (.readClips r) s = .next (t.answered r.tag .done body) ∧
      t = { s with mixer := t.mixer, notices := t.notices } ∧
      (∀ i : Slot, t.mixer.clips.row i = 0) ∧ t.mixer.lastEmitted = s.mixer.lastEmitted ∧
      t.mixer.flight = s.mixer.flight ∧
      t.notices = { s.notices with queue := t.notices.queue } ∧
      t.notices.queue.length = s.notices.queue.length ∧
      ∀ (i : Nat) (n : Notice), s.notices.queue[i]? = some n →
        t.notices.queue[i]? = some (match n.val with
          | .clip f _ _ => ⟨.clip f [] 0, n.count⟩
          | _ => n))

/-- R18, R55: SET LANES replaces both sets if they keep the link's lanes and is refused LANE_HOLDS_LINK otherwise; SET NOTICE
MASK replaces the mask and removes the queued notices of the kinds it disables. In every timing
state (DESIGN CHOICE, assumption 6). -/
def Obligations.LanesAndMaskAreReplaced : Prop :=
  (∀ (lanes : BitVec 4) (i : Slot), laneOn lanes i = lanes.getLsbD (i.toNat / 16)) ∧
  ∀ (s : State) (r : Req), r.hdrReserved = false → s.takesAtOnce r.tag →
    (∀ ins outs : BitVec 4, readLanes r.body = some (ins, outs) →
      (laneOn ins s.link.inb = true → laneOn outs s.link.outb = true →
        exec (.setLanes r) s = .next
          ((s.setTiming { s.timing with inLanes := ins, outLanes := outs }).answered r.tag .done r.body)) ∧
      (laneOn ins s.link.inb = false ∨ laneOn outs s.link.outb = false →
        exec (.setLanes r) s = .next (s.answered r.tag .laneHoldsLink []))) ∧
    (∀ mask : BitVec 8, readMask r.body = some mask →
      exec (.setNoticeMask r) s = .next
        ((s.setNotices { s.notices with
          mask := mask
          queue := s.notices.queue.filter fun n => mask.getLsbD (n.val.kind - 1) }).answered r.tag .done r.body))

/-- R16, R36, R41, R42, R43, R44, R158, R176, R178: a MOVE LINK, SET FRAME FORMAT or RESET FULL that passes its checks is
answered DONE and fenced, and nothing else happens yet; the checks that fail refuse it, in the order of their rules.
What waits behind the fence is taken from the head, one request in each `.drain` part (DESIGN CHOICE, assumption 3; after the closing event: DEDUCED, assumption 32),
as soon as the Executor is IDLE, and comes out as a request does that is taken at once; where the Executor is FENCED
or the queue empty nothing is taken. A request taken while a natural end of the open frame is still to be posted finds it
posted (R158; the part it is posted in is the model's record, assumption 29). In every timing state (DESIGN CHOICE,
assumption 6). -/
def Obligations.FencedRequestsWait : Prop :=
  (∀ (s : State) (tag : Tag) (st : Status) (body : List Payload) (t : State) (eff : Effect),
    let ended (u : State) (st : Status) (body : List Payload) : State := u.setReplies
      ⟨u.replies.reserved.eraseP fun p => p.tag == tag, u.replies.ready ++ [⟨tag, st, body, false⟩]⟩
    s.complete tag (.refused st) = ended s st [] ∧ s.complete tag (.done t body) = ended t .done body ∧
    s.complete tag (.deferred t) = t ∧
    s.complete tag (.fenced eff body) = (ended s .done body).setExecutor (.fenced tag eff false)) ∧
  (∀ (s : State) (c : FrameCtx), s.frame = some c →
    (∀ q rest, s.executor = .idle → s.cmdq = q :: rest →
      s.runPhase .drain = (s.postEnds.setCmdq rest).complete q.tag (q.outcome (s.postEnds.setCmdq rest))) ∧
    (s.executor ≠ .idle ∨ s.cmdq = [] → s.runPhase .drain = s)) ∧
  (∀ (s : State) (code : Code) (r : Req), s.takesAtOnce r.tag → 1 ≤ code.toNat → code.toNat ≤ 32 →
    s.deliver code r = (s.reserved r.tag code).complete r.tag
      (Queued.outcome ⟨r.tag, code, r.hdrReserved, r.body⟩ (s.reserved r.tag code))) ∧
  (∀ s : State, s.endsPosted → s.postEnds = s) ∧
  (∀ (s : State) (code : Code) (r : Req), s.mayTake r.tag → 1 ≤ code.toNat → code.toNat ≤ 32 →
    s.postEnds.takesAtOnce r.tag ∧ s.deliver code r = s.postEnds.deliver code r) ∧
  ∀ (s : State) (tag : Tag), s.takesAtOnce tag →
    exec (.resetFull tag false) s = .next ((s.answered tag .done [2]).setExecutor (.fenced tag .resetFull false)) ∧
    (∀ (body : List Payload) (f : Format), readFormat body = some f →
      (f.present s.link.inb = true → f.present s.link.outb = true →
        exec (.setFrameFormat ⟨tag, false, body⟩) s = .next
          ((s.answered tag .done body).setExecutor (.fenced tag (.setFormat f) false))) ∧
      (f.present s.link.inb = false ∨ f.present s.link.outb = false →
        exec (.setFrameFormat ⟨tag, false, body⟩) s = .next (s.answered tag .linkSlotAbsent []))) ∧
    (∀ (body : List Payload) (inb outb : Slot), readMoveLink body = some (inb, outb) →
      let present : Prop := s.timing.format.present inb = true ∧ s.timing.format.present outb = true
      let enabled : Prop := laneOn s.timing.inLanes inb = true ∧ laneOn s.timing.outLanes outb = true
      let unused (sub : Subject) : Prop :=
        (∀ w : WatchNo, ∀ p ∈ (s.watches.row w).params, (s.watches.row w).state ≠ .disarmed → p.subject ≠ sub) ∧
        (s.capture.state ≠ .idle → s.capture.subject ≠ some sub)
      let free : Prop :=
        (inb = s.link.inb ∨
          ((∀ i : Slot, ∀ c ∈ (s.staged.row i).list, c.source ≠ inb.setWidth 7) ∧
            (∀ (i : Slot) (k : BitVec 2), match (s.active.row i).pos.row k with
              | .empty => True
              | .steady c _ | .ramping c _ => c.source ≠ inb.setWidth 7
              | .draining c _ pend => c.source ≠ inb.setWidth 7 ∧ ∀ p ∈ pend, p.source ≠ inb.setWidth 7) ∧
            unused (.input inb))) ∧
        (outb = s.link.outb ∨
          ((s.staged.row outb).drive = .released ∧ (s.active.row outb).drive = .released ∧ unused (.output outb)))
      (¬ present → exec (.moveLink ⟨tag, false, body⟩) s = .next (s.answered tag .linkSlotAbsent [])) ∧
      (present → ¬ enabled → exec (.moveLink ⟨tag, false, body⟩) s = .next (s.answered tag .laneDisabled [])) ∧
      (present → enabled → ¬ free → exec (.moveLink ⟨tag, false, body⟩) s = .next (s.answered tag .slotInUse [])) ∧
      (present → enabled → free →
        exec (.moveLink ⟨tag, false, body⟩) s = .next
          ((s.answered tag .done body).setExecutor (.fenced tag (.moveLink inb outb) false))))

/-- R49, R80, R99, R117, R177: RESET ROUTING: a pending COMMIT is answered COMMIT_CANCELLED ahead of its own DONE; tables,
groups, clip counts and last emitted values take their reset values; the result in flight, the notices and all else
are kept. In every timing state (DESIGN CHOICE, assumption 6). -/
def Obligations.ResetRoutingClearsTheRouting : Prop :=
  ∀ (s : State) (tag : Tag), s.takesAtOnce tag →
    (∀ k, s.commit = some k → tag ≠ k.tag) →
    ∃ t, exec (.resetRouting tag false) s = .next t ∧ t.commit = none ∧
      (∀ i : Slot, t.staged.row i = ⟨.released, .live, 0, [], false⟩ ∧ (t.active.row i).drive = .released ∧
        (t.active.row i).hold = .live ∧ (t.active.row i).group = 0 ∧
        (∀ k : BitVec 2, (t.active.row i).pos.row k = .empty) ∧
        t.mixer.clips.row i = 0 ∧ t.mixer.lastEmitted.row i = 0) ∧
      (∀ g : GroupNo, t.groups.row g = ⟨2, 1, false, 0, 0⟩) ∧
      t.mixer.flight = s.mixer.flight ∧
      t = { s with
        staged := t.staged, active := t.active, commit := t.commit, groups := t.groups
        mixer := t.mixer, replies := t.replies } ∧
      (s.commit = none → t.replies = { s.replies with ready := s.replies.ready ++ [⟨tag, .done, [1], false⟩] }) ∧
      (∀ k, s.commit = some k → t.replies.ready = s.replies.ready ++
        [⟨k.tag, .commitCancelled, [0, s.now.extractLsb' 0 24, 0#16 ++ s.now.extractLsb' 24 8, 0#8 ++ k.elapsed],
            false⟩,
          ⟨tag, .done, [0#8 ++ k.tag ++ 0#1 ++ 1#1 ++ 0#6 ++ 1#2], false⟩])

/-- R59, R60, R65, R66, R67: the staging requests that pass replace or clear staged entries and set or clear dirty marks,
and touch nothing else; the checks refuse in the order of their rules. In every timing state (DESIGN CHOICE,
assumption 6). -/
def Obligations.StagingRequests : Prop :=
  ∀ (s : State) (r : Req), r.hdrReserved = false → s.takesAtOnce r.tag →
    (∀ f, readStageRoute r.body = some f →
      let distinct : Prop := (f.list.map (·.source)).Nodup
      let allowed : Prop := (∀ c ∈ f.list, c.source ≠ s.link.inb.setWidth 7) ∧
        (f.slot = s.link.outb → f.drive = .released)
      (¬ distinct → exec (.stageRoute r) s = .next (s.answered r.tag .badField [])) ∧
      (distinct → s.commit.isSome = true → exec (.stageRoute r) s = .next (s.answered r.tag .stageLocked [])) ∧
      (distinct → s.commit = none → ¬ allowed → exec (.stageRoute r) s = .next (s.answered r.tag .slotReserved [])) ∧
      (distinct → s.commit = none → allowed →
        exec (.stageRoute r) s = .next
          ((s.setStaged (s.staged.put f.slot ⟨f.drive, f.hold, f.group, f.list, true⟩)).answered r.tag .done
            [f.slot ++ 0#18]))) ∧
    (∀ slot, readStageClear r.body = some (some slot) → s.commit = none →
      exec (.stageClear r) s = .next
        ((s.setStaged (s.staged.put slot ⟨.released, .live, 0, [], true⟩)).answered r.tag .done [1])) ∧
    (readStageClear r.body = some none → s.commit = none →
      ∃ u, exec (.stageClear r) s = .next ((s.setStaged u).answered r.tag .done [64]) ∧
        ∀ i : Slot, u.row i = ⟨.released, .live, 0, [], true⟩) ∧
    (r.body = [] → s.commit = none →
      ∃ u, exec (.stageFromActive r) s = .next ((s.setStaged u).answered r.tag .done []) ∧
        ∀ i : Slot, (u.row i).drive = (s.active.row i).drive ∧ (u.row i).hold = (s.active.row i).hold ∧
          (u.row i).group = (s.active.row i).group ∧ (u.row i).dirty = false ∧
          (u.row i).list = [(s.active.row i).pos.row 0, (s.active.row i).pos.row 1, (s.active.row i).pos.row 2,
            (s.active.row i).pos.row 3].filterMap fun p => match p with
              | .empty => none
              | .steady c _ => some c
              | .ramping c _ => some c
              | .draining _ _ pend => pend) ∧
    (s.commit.isSome = true →
      (∀ x, readStageClear r.body = some x → exec (.stageClear r) s = .next (s.answered r.tag .stageLocked [])) ∧
      (r.body = [] → exec (.stageFromActive r) s = .next (s.answered r.tag .stageLocked [])))

/-- R43, R69, R75: COMMIT makes the pending record and waits with its place RESERVED, or is refused COMMIT_PENDING; CANCEL
COMMIT ends the record, which is answered COMMIT_CANCELLED ahead of it, or is answered NO_COMMIT. In every timing
state (DESIGN CHOICE, assumption 6). -/
def Obligations.CommitIsDeferredOrCancelled : Prop :=
  ∀ (s : State) (r : Req), r.hdrReserved = false → s.takesAtOnce r.tag →
    (∀ gate limit, readCommit r.body = some (gate, limit) →
      (s.commit = none →
        exec (.commit r) s = .next ((s.reserved r.tag 12).setCommit (some ⟨r.tag, gate, limit, 0⟩))) ∧
      (s.commit.isSome = true → exec (.commit r) s = .next (s.answered r.tag .commitPending []))) ∧
    (r.body = [] →
      (s.commit = none → exec (.cancelCommit r) s = .next (s.answered r.tag .noCommit [])) ∧
      (∀ k, s.commit = some k → k.tag ≠ r.tag →
        exec (.cancelCommit r) s = .next
          (((s.setCommit none).setReplies
            { reserved := s.replies.reserved.eraseP fun p => p.tag == k.tag
              ready := s.replies.ready ++
                [⟨k.tag, .commitCancelled,
                  [0, s.now.extractLsb' 0 24, 0#16 ++ s.now.extractLsb' 24 8, 0#8 ++ k.elapsed], false⟩] }).answered
            r.tag .done [])))

/-- R77, R86, R87, R96, R101: SET GAIN on a position. A STEADY or RAMPING one takes the target and its state follows; a
draining one with a pending source takes it as the pending target; the others are refused POSITION_EMPTY. Where the
group's count does not change, nothing but that position does. A count that rises from 0 has the countdown set, not to
be decremented at an open frame; one that falls to 0 has it cleared, and RAMP_DONE is posted if the position stopped.
In every timing state (DESIGN CHOICE, assumption 6). -/
def Obligations.SetGainActsOnOnePosition : Prop :=
  ∀ (s : State) (r : Req) (slot : Slot) (k : BitVec 2) (code : Gain), r.hdrReserved = false → s.takesAtOnce r.tag →
    readSetGain r.body = some (slot, k, code) →
    let e := s.active.row slot
    let g := s.groups.row e.group
    let goal : Gain := if g.muted then 0 else code
    let put (p : Position) : Table 6 Active := s.active.put slot { e with pos := e.pos.put k p }
    let becomes (p : Position) : Prop := ∃ t, exec (.setGain r) s = .next t ∧ t.active = put p ∧
      t.replies = { s.replies with ready := s.replies.ready ++ [⟨r.tag, .done, p.pair, false⟩] } ∧
      s.countsFollow t s.groups ∧ t.frame = (s.frame.map fun c => c.lessRisen s.groups t.active) ∧
      ((∀ h : GroupNo, (s.groups.row h).moving = movers h (put p)) → t.groups = s.groups ∧ t.notices = s.notices) ∧
      t = { s with
        active := t.active, groups := t.groups, replies := t.replies, notices := t.notices
        frame := t.frame }
    (∀ c cur, e.pos.row k = .steady c cur ∨ e.pos.row k = .ramping c cur →
      (cur = goal → becomes (.steady { c with target := code } cur)) ∧
      (cur ≠ goal → g.interval = 0 → becomes (.steady { c with target := code } goal)) ∧
      (cur ≠ goal → g.interval ≠ 0 → becomes (.ramping { c with target := code } cur))) ∧
    (∀ c cur p, e.pos.row k = .draining c cur (some p) →
      becomes (.draining c cur (some { p with target := code }))) ∧
    (e.pos.row k = .empty ∨ (∃ c cur, e.pos.row k = .draining c cur none) →
      exec (.setGain r) s = .next (s.answered r.tag .positionEmpty []))

/-- R84, R86, R87, R88, R91, R92, R93, R96: GROUP MUTE and SET GROUP. The mute changes the group's flag and the positions
of its entries that neither drain nor are EMPTY, whose state follows, the gain jumping in a jump group; the counts,
the countdown and RAMP_DONE follow. SET GROUP changes step and interval, restarts a running countdown, which is not
decremented at an open frame, and with interval 0 completes every movement at once with no RAMP_DONE. Neither changes
an entry's drive, hold policy or group. In every timing state (DESIGN CHOICE, assumption 6). -/
def Obligations.GroupRequests : Prop :=
  ∀ (s : State) (r : Req), r.hdrReserved = false → s.takesAtOnce r.tag →
    (∀ (g : GroupNo) (muted : Bool), readGroupMute r.body = some (g, muted) →
      ∃ t, exec (.groupMute r) s = .next t ∧
        s.countsFollow t (s.groups.put g { s.groups.row g with muted := muted }) ∧
        t.frame = (s.frame.map fun c => c.lessRisen s.groups t.active) ∧
        (∀ i : Slot, (s.active.row i).group ≠ g → t.active.row i = s.active.row i) ∧
        (∀ i : Slot, t.active.row i = { s.active.row i with pos := (t.active.row i).pos }) ∧
        (∀ i : Slot, (s.active.row i).group = g → ∀ k : BitVec 2,
          (t.active.row i).pos.row k =
            match (s.active.row i).pos.row k with
            | .steady c cur | .ramping c cur =>
              let goal : Gain := if muted then 0 else c.target
              if cur = goal then .steady c cur
              else if (s.groups.row g).interval = 0 then .steady c goal
              else .ramping c cur
            | p => p) ∧
        t.replies = (s.answered r.tag .done (Group.words g (t.groups.row g))).replies ∧
        t = { s with
          active := t.active, groups := t.groups, replies := t.replies, notices := t.notices
          frame := t.frame }) ∧
    (∀ (g : GroupNo) (step interval : Nat), readSetGroup r.body = some (g, step, interval) →
      ∃ t, exec (.setGroup r) s = .next t ∧
        t.groups.row g = { s.groups.row g with
          step := step, interval := interval
          moving := if interval = 0 then 0 else (s.groups.row g).moving
          countdown := if (s.groups.row g).moving = 0 then (s.groups.row g).countdown else interval } ∧
        (∀ h : GroupNo, h ≠ g → t.groups.row h = s.groups.row h) ∧
        (interval ≠ 0 ∨ (s.groups.row g).moving = 0 → t.active = s.active) ∧
        (interval = 0 → 0 < (s.groups.row g).moving → ∀ i : Slot,
          ((s.active.row i).group ≠ g → t.active.row i = s.active.row i) ∧
          ((s.active.row i).group = g → ∀ k : BitVec 2,
            (t.active.row i).pos.row k =
              let goal (c : Contrib) : Gain := if (s.groups.row g).muted then 0 else c.target
              match (s.active.row i).pos.row k with
              | .ramping c _ => .steady c (goal c)
              | .draining _ _ (some c) => .steady c (goal c)
              | .draining _ _ none => .empty
              | p => p)) ∧
        (∀ i : Slot, t.active.row i = { s.active.row i with pos := (t.active.row i).pos }) ∧
        t.frame = (s.frame.map fun c =>
          if interval ≠ 0 ∧ 0 < (s.groups.row g).moving then { c with todo := c.todo.filter (· ≠ .group g) } else c) ∧
        t.replies = (s.answered r.tag .done (Group.words g (t.groups.row g))).replies ∧
        t = { s with
          active := t.active, groups := t.groups, replies := t.replies, frame := t.frame })

/-- R120, R124, R125, R126, R127: DEFINE, RELEASE and WRITE REGION, with their checks in order. A definition makes a READY
record with nothing valid and writes no word; a release needs a READY region; a write stores its samples at consecutive
words from its offset and nowhere else, raises the valid length and sets the oldest offset to 0. In every timing
state (DESIGN CHOICE, assumption 6). -/
def Obligations.RegionRequests : Prop :=
  ∀ (s : State) (r : Req), r.hdrReserved = false → s.takesAtOnce r.tag →
    (∀ (id : RegionNo) (base length : Nat), readDefineRegion r.body = some (id, base, length) →
      let overlap : Prop := ∃ (j : RegionNo) (q : Region), s.regions.row j = some q ∧
        base < q.base + q.length ∧ q.base < base + length
      (s.regions.row id ≠ none → exec (.defineRegion r) s = .next (s.answered r.tag .regionDefined [])) ∧
      (s.regions.row id = none → overlap → exec (.defineRegion r) s = .next (s.answered r.tag .regionOverlap [])) ∧
      (s.regions.row id = none → ¬ overlap →
        exec (.defineRegion r) s = .next
          ((s.setRegions (s.regions.put id (some ⟨base, length, 0, 0, .ready⟩))).answered r.tag .done
            (regionWords id (some ⟨base, length, 0, 0, .ready⟩))))) ∧
    (∀ id : RegionNo, readRegionId r.body = some id →
      (s.regions.row id = none → exec (.releaseRegion r) s = .next (s.answered r.tag .regionUndefined [])) ∧
      (∀ q, s.regions.row id = some q → q.use ≠ .ready →
        exec (.releaseRegion r) s = .next (s.answered r.tag .regionBusy [])) ∧
      (∀ q, s.regions.row id = some q → q.use = .ready →
        exec (.releaseRegion r) s = .next
          ((s.setRegions (s.regions.put id none)).answered r.tag .done [id ++ 0#21]))) ∧
    (∀ (id : RegionNo) (offset : Nat) (xs : List Sample), readWriteRegion r.body = some (id, offset, xs) →
      (s.regions.row id = none → exec (.writeRegion r) s = .next (s.answered r.tag .regionUndefined [])) ∧
      (∀ q, s.regions.row id = some q →
        (q.use ≠ .ready → exec (.writeRegion r) s = .next (s.answered r.tag .regionBusy [])) ∧
        (q.use = .ready → q.length < offset + xs.length →
          exec (.writeRegion r) s = .next (s.answered r.tag .outOfRegion [])) ∧
        (q.use = .ready → offset + xs.length ≤ q.length → q.base + q.length ≤ 8192 →
          ∃ m, exec (.writeRegion r) s = .next
            (((s.setMemory m).setRegions (s.regions.put id
              (some { q with valid := max q.valid (offset + xs.length), oldest := 0 }))).answered r.tag .done
                [id ++ 0#7 ++ BitVec.ofNat 14 (max q.valid (offset + xs.length)), 0]) ∧
            (∀ (i : Nat) (x : Sample), xs[i]? = some x → (s.setMemory m).word (q.base + offset + i) = x) ∧
            (∀ a : Nat, a < q.base + offset ∨ q.base + offset + xs.length ≤ a →
              (s.setMemory m).word a = s.word a))))

/-- R136, R147: START CAPTURE and STOP CAPTURE, with their checks in order. A start claims a READY region and rewrites the
record; a stop returns the region with what was written, oldest first, and posts CAPTURE_STATE with STOPPED. In every
timing state (DESIGN CHOICE, assumption 6). -/
def Obligations.CaptureRequests : Prop :=
  ∀ (s : State) (r : Req), r.hdrReserved = false → s.takesAtOnce r.tag →
    (∀ f, readStartCapture r.body = some f →
      let idle : Prop := s.capture.state = .idle
      (¬ idle → exec (.startCapture r) s = .next (s.answered r.tag .captureBusy [])) ∧
      (idle → s.regions.row f.region = none → exec (.startCapture r) s = .next (s.answered r.tag .regionBusy [])) ∧
      (∀ q, s.regions.row f.region = some q → idle →
        (q.use ≠ .ready → exec (.startCapture r) s = .next (s.answered r.tag .regionBusy [])) ∧
        (q.use = .ready → q.length < f.postCount →
          exec (.startCapture r) s = .next (s.answered r.tag .badField [])) ∧
        (q.use = .ready → f.postCount ≤ q.length →
          (f.subject = .input s.link.inb ∨ f.subject = .output s.link.outb) →
          exec (.startCapture r) s = .next (s.answered r.tag .slotReserved [])) ∧
        (q.use = .ready → f.postCount ≤ q.length →
          f.subject ≠ .input s.link.inb → f.subject ≠ .output s.link.outb →
          ∃ k : Capture, k.state = (match f.mode, f.trigger with
              | .once, .watch _ => .armed
              | _, _ => .filling) ∧
            k = { k with
              region := some f.region, subject := some f.subject, mode := some f.mode, trigger := some f.trigger
              postCount := f.postCount, writeOffset := 0, written := 0, postRemaining := 0, triggerOffset := none
              holdoverFrames := 0, startFrame := none, endReason := none } ∧
            exec (.startCapture r) s = .next
              (((s.setRegions (s.regions.put f.region
                (some { q with use := .capturing, valid := 0, oldest := 0 }))).setCapture k).answered r.tag .done
                k.words)))) ∧
    (r.body = [] → s.capture.state = .idle →
      exec (.stopCapture r) s = .next (s.answered r.tag .notRunning [])) ∧
    (∀ id q, r.body = [] → s.capture.state ≠ .idle → s.capture.region = some id → s.regions.row id = some q →
      let oldest := if s.capture.mode = some .ring ∧ s.capture.written = q.length then s.capture.writeOffset else 0
      let k : Capture := { s.capture with state := .idle, endReason := some .stopped }
      exec (.stopCapture r) s = .next
        ((((s.setCapture k).setRegions (s.regions.put id
          (some { q with use := .ready, valid := s.capture.written, oldest := oldest }))).post
          (.captureState s.now (k.report s.capture.written oldest))).answered r.tag .done
          [0#3 ++ id ++ 3#3 ++ BitVec.ofBool s.capture.triggerOffset.isSome ++ 0#1
              ++ BitVec.ofNat 13 (s.capture.triggerOffset.getD 0),
            0#10 ++ BitVec.ofNat 14 s.capture.written, 0#10 ++ BitVec.ofNat 14 s.capture.written,
            0#11 ++ BitVec.ofNat 13 oldest]))

/-- R131, R155, R157: START PLAYER and STOP PLAYER, with their checks in order. A start claims a region with valid data
for one user more and begins at position 0; a stop ends a PLAYING player where it stands and gives the region back,
posting nothing; an IDLE player is left as it is. In every timing state (DESIGN CHOICE, assumption 6). -/
def Obligations.PlayerRequests : Prop :=
  ∀ (s : State) (r : Req), r.hdrReserved = false → s.takesAtOnce r.tag →
    (∀ p id loops, readStartPlayer r.body = some (p, id, loops) →
      ((s.players.row p).playing = true → exec (.startPlayer r) s = .next (s.answered r.tag .playerBusy [])) ∧
      ((s.players.row p).playing = false →
        (s.regions.row id = none → exec (.startPlayer r) s = .next (s.answered r.tag .regionBusy [])) ∧
        ∀ q, s.regions.row id = some q →
          (q.use = .capturing → exec (.startPlayer r) s = .next (s.answered r.tag .regionBusy [])) ∧
          (q.use ≠ .capturing → q.valid = 0 → exec (.startPlayer r) s = .next (s.answered r.tag .emptyRegion [])) ∧
          (q.use ≠ .capturing → q.valid ≠ 0 →
            let v : Player := ⟨true, some id, 0, loops, 0, (s.players.row p).sample⟩
            exec (.startPlayer r) s = .next
              (((s.setRegions (s.regions.put id (some { q with use := .playing (q.use.users + 1) }))).setPlayers
                (s.players.put p v)).answered r.tag .done
                (Player.words p v ++ [0#10 ++ BitVec.ofNat 14 q.valid]))))) ∧
    (∀ p, readPlayerNo r.body = some p →
      let v : Player := { s.players.row p with playing := false, sample := 0 }
      ((s.players.row p).playing = false →
        ∃ w0 w1 w2, exec (.stopPlayer r) s = .next (s.answered r.tag .done [w0, w1, w2]) ∧
          w0.getLsbD 8 = false ∧ fld w0 23 1 = p ∧ w0.getLsbD 22 = false ∧
          w0.getLsbD 21 = (s.players.row p).region.isSome ∧ fld w0 18 3 = (s.players.row p).region.getD 0 ∧
          fld w0 0 8 = (s.players.row p).loops ∧ fld w0 9 9 = 0 ∧ fld w1 16 8 = 0 ∧ fld w2 13 11 = 0 ∧
          fld w1 0 16 = (s.players.row p).passes ∧ fld w2 0 13 = BitVec.ofNat 13 (s.players.row p).position) ∧
      (∀ id q, (s.players.row p).playing = true → (s.players.row p).region = some id → s.regions.row id = some q →
        ∃ w0 w1 w2 q', exec (.stopPlayer r) s = .next
            (((s.setPlayers (s.players.put p v)).setRegions (s.regions.put id (some q'))).answered r.tag .done
              [w0, w1, w2]) ∧
          (∀ n, q.use = .playing n → q' = { q with use := if n ≤ 1 then .ready else .playing (n - 1) }) ∧
          w0.getLsbD 8 = true ∧ fld w0 23 1 = p ∧ w0.getLsbD 22 = false ∧ w0.getLsbD 21 = true ∧ fld w0 18 3 = id ∧
          fld w0 9 9 = 0 ∧ fld w1 16 8 = 0 ∧ fld w2 13 11 = 0 ∧
          fld w0 0 8 = (s.players.row p).loops ∧ fld w1 0 16 = (s.players.row p).passes ∧
          fld w2 0 13 = BitVec.ofNat 13 (s.players.row p).position))

/-- R168, R169: SET WATCH and CLEAR WATCH. A set that passes puts the watch in CLEAR under the new parameters whatever it
held, a management slot of its own side is refused; a clear disarms the watch and keeps its parameters, but not while
the capture waits on it. In every timing state (DESIGN CHOICE, assumption 6). -/
def Obligations.WatchRequests : Prop :=
  ∀ (s : State) (r : Req), r.hdrReserved = false → s.takesAtOnce r.tag →
    (∀ w p, readSetWatch r.body = some (w, p) →
      (p.subject = .input s.link.inb ∨ p.subject = .output s.link.outb →
        exec (.setWatch r) s = .next (s.answered r.tag .slotReserved [])) ∧
      (p.subject ≠ .input s.link.inb → p.subject ≠ .output s.link.outb →
        exec (.setWatch r) s = .next
          ((s.setWatches (s.watches.put w ⟨.clear, some p, 0⟩)).answered r.tag .done
            (Watch.words w ⟨.clear, some p, 0⟩ (s.watches.row w).state.code)))) ∧
    (∀ w, readWatchNo r.body = some w →
      let waits : Prop := s.capture.trigger = some (.watch w) ∧
        (s.capture.state = .armed ∨ (s.capture.state = .filling ∧ s.capture.mode = some .ring))
      (waits → exec (.clearWatch r) s = .next (s.answered r.tag .watchInUse [])) ∧
      (¬ waits →
        exec (.clearWatch r) s = .next
          ((s.setWatches (s.watches.put w { s.watches.row w with state := .disarmed, run := 0 })).answered r.tag .done
            [w ++ 0#14 ++ (s.watches.row w).state.code ++ 0#4]))) ∧
    (∀ w p, readSetWatch r.body = some (w, p) →
      1 ≤ p.duration ∧ p.duration ≤ 4096 ∧
      (p.sense = .above → p.release.toNat ≤ p.threshold.toNat) ∧
      (p.sense = .below → p.threshold.toNat ≤ p.release.toNat))
end

