-- ==== Sys2Proof/Laws/State.lean ====
section
/-! SUPPORT. One lemma per field per update of State: what each setter leaves and what it writes. -/

namespace Sys2Proof.Machine

section
variable (s : State) (v : Timing)
@[simp] theorem State.setTiming_timing : (s.setTiming v).timing = v := rfl
@[simp] theorem State.setTiming_link : (s.setTiming v).link = s.link := rfl
@[simp] theorem State.setTiming_parser : (s.setTiming v).parser = s.parser := rfl
@[simp] theorem State.setTiming_cmdq : (s.setTiming v).cmdq = s.cmdq := rfl
@[simp] theorem State.setTiming_executor : (s.setTiming v).executor = s.executor := rfl
@[simp] theorem State.setTiming_replies : (s.setTiming v).replies = s.replies := rfl
@[simp] theorem State.setTiming_notices : (s.setTiming v).notices = s.notices := rfl
@[simp] theorem State.setTiming_composer : (s.setTiming v).composer = s.composer := rfl
@[simp] theorem State.setTiming_staged : (s.setTiming v).staged = s.staged := rfl
@[simp] theorem State.setTiming_active : (s.setTiming v).active = s.active := rfl
@[simp] theorem State.setTiming_commit : (s.setTiming v).commit = s.commit := rfl
@[simp] theorem State.setTiming_groups : (s.setTiming v).groups = s.groups := rfl
@[simp] theorem State.setTiming_mixer : (s.setTiming v).mixer = s.mixer := rfl
@[simp] theorem State.setTiming_memory : (s.setTiming v).memory = s.memory := rfl
@[simp] theorem State.setTiming_powerUps : (s.setTiming v).powerUps = s.powerUps := rfl
@[simp] theorem State.setTiming_regions : (s.setTiming v).regions = s.regions := rfl
@[simp] theorem State.setTiming_capture : (s.setTiming v).capture = s.capture := rfl
@[simp] theorem State.setTiming_players : (s.setTiming v).players = s.players := rfl
@[simp] theorem State.setTiming_watches : (s.setTiming v).watches = s.watches := rfl
@[simp] theorem State.setTiming_pins : (s.setTiming v).pins = s.pins := rfl
@[simp] theorem State.setTiming_frame : (s.setTiming v).frame = s.frame := rfl
@[simp] theorem State.setTiming_pending : (s.setTiming v).pending = s.pending := rfl
end

section
variable (s : State) (v : Link)
@[simp] theorem State.setLink_timing : (s.setLink v).timing = s.timing := rfl
@[simp] theorem State.setLink_link : (s.setLink v).link = v := rfl
@[simp] theorem State.setLink_parser : (s.setLink v).parser = s.parser := rfl
@[simp] theorem State.setLink_cmdq : (s.setLink v).cmdq = s.cmdq := rfl
@[simp] theorem State.setLink_executor : (s.setLink v).executor = s.executor := rfl
@[simp] theorem State.setLink_replies : (s.setLink v).replies = s.replies := rfl
@[simp] theorem State.setLink_notices : (s.setLink v).notices = s.notices := rfl
@[simp] theorem State.setLink_composer : (s.setLink v).composer = s.composer := rfl
@[simp] theorem State.setLink_staged : (s.setLink v).staged = s.staged := rfl
@[simp] theorem State.setLink_active : (s.setLink v).active = s.active := rfl
@[simp] theorem State.setLink_commit : (s.setLink v).commit = s.commit := rfl
@[simp] theorem State.setLink_groups : (s.setLink v).groups = s.groups := rfl
@[simp] theorem State.setLink_mixer : (s.setLink v).mixer = s.mixer := rfl
@[simp] theorem State.setLink_memory : (s.setLink v).memory = s.memory := rfl
@[simp] theorem State.setLink_powerUps : (s.setLink v).powerUps = s.powerUps := rfl
@[simp] theorem State.setLink_regions : (s.setLink v).regions = s.regions := rfl
@[simp] theorem State.setLink_capture : (s.setLink v).capture = s.capture := rfl
@[simp] theorem State.setLink_players : (s.setLink v).players = s.players := rfl
@[simp] theorem State.setLink_watches : (s.setLink v).watches = s.watches := rfl
@[simp] theorem State.setLink_pins : (s.setLink v).pins = s.pins := rfl
@[simp] theorem State.setLink_frame : (s.setLink v).frame = s.frame := rfl
@[simp] theorem State.setLink_pending : (s.setLink v).pending = s.pending := rfl
end

section
variable (s : State) (v : Parser)
@[simp] theorem State.setParser_timing : (s.setParser v).timing = s.timing := rfl
@[simp] theorem State.setParser_link : (s.setParser v).link = s.link := rfl
@[simp] theorem State.setParser_parser : (s.setParser v).parser = v := rfl
@[simp] theorem State.setParser_cmdq : (s.setParser v).cmdq = s.cmdq := rfl
@[simp] theorem State.setParser_executor : (s.setParser v).executor = s.executor := rfl
@[simp] theorem State.setParser_replies : (s.setParser v).replies = s.replies := rfl
@[simp] theorem State.setParser_notices : (s.setParser v).notices = s.notices := rfl
@[simp] theorem State.setParser_composer : (s.setParser v).composer = s.composer := rfl
@[simp] theorem State.setParser_staged : (s.setParser v).staged = s.staged := rfl
@[simp] theorem State.setParser_active : (s.setParser v).active = s.active := rfl
@[simp] theorem State.setParser_commit : (s.setParser v).commit = s.commit := rfl
@[simp] theorem State.setParser_groups : (s.setParser v).groups = s.groups := rfl
@[simp] theorem State.setParser_mixer : (s.setParser v).mixer = s.mixer := rfl
@[simp] theorem State.setParser_memory : (s.setParser v).memory = s.memory := rfl
@[simp] theorem State.setParser_powerUps : (s.setParser v).powerUps = s.powerUps := rfl
@[simp] theorem State.setParser_regions : (s.setParser v).regions = s.regions := rfl
@[simp] theorem State.setParser_capture : (s.setParser v).capture = s.capture := rfl
@[simp] theorem State.setParser_players : (s.setParser v).players = s.players := rfl
@[simp] theorem State.setParser_watches : (s.setParser v).watches = s.watches := rfl
@[simp] theorem State.setParser_pins : (s.setParser v).pins = s.pins := rfl
@[simp] theorem State.setParser_frame : (s.setParser v).frame = s.frame := rfl
@[simp] theorem State.setParser_pending : (s.setParser v).pending = s.pending := rfl
end

section
variable (s : State) (v : List Queued)
@[simp] theorem State.setCmdq_timing : (s.setCmdq v).timing = s.timing := rfl
@[simp] theorem State.setCmdq_link : (s.setCmdq v).link = s.link := rfl
@[simp] theorem State.setCmdq_parser : (s.setCmdq v).parser = s.parser := rfl
@[simp] theorem State.setCmdq_cmdq : (s.setCmdq v).cmdq = v := rfl
@[simp] theorem State.setCmdq_executor : (s.setCmdq v).executor = s.executor := rfl
@[simp] theorem State.setCmdq_replies : (s.setCmdq v).replies = s.replies := rfl
@[simp] theorem State.setCmdq_notices : (s.setCmdq v).notices = s.notices := rfl
@[simp] theorem State.setCmdq_composer : (s.setCmdq v).composer = s.composer := rfl
@[simp] theorem State.setCmdq_staged : (s.setCmdq v).staged = s.staged := rfl
@[simp] theorem State.setCmdq_active : (s.setCmdq v).active = s.active := rfl
@[simp] theorem State.setCmdq_commit : (s.setCmdq v).commit = s.commit := rfl
@[simp] theorem State.setCmdq_groups : (s.setCmdq v).groups = s.groups := rfl
@[simp] theorem State.setCmdq_mixer : (s.setCmdq v).mixer = s.mixer := rfl
@[simp] theorem State.setCmdq_memory : (s.setCmdq v).memory = s.memory := rfl
@[simp] theorem State.setCmdq_powerUps : (s.setCmdq v).powerUps = s.powerUps := rfl
@[simp] theorem State.setCmdq_regions : (s.setCmdq v).regions = s.regions := rfl
@[simp] theorem State.setCmdq_capture : (s.setCmdq v).capture = s.capture := rfl
@[simp] theorem State.setCmdq_players : (s.setCmdq v).players = s.players := rfl
@[simp] theorem State.setCmdq_watches : (s.setCmdq v).watches = s.watches := rfl
@[simp] theorem State.setCmdq_pins : (s.setCmdq v).pins = s.pins := rfl
@[simp] theorem State.setCmdq_frame : (s.setCmdq v).frame = s.frame := rfl
@[simp] theorem State.setCmdq_pending : (s.setCmdq v).pending = s.pending := rfl
end

section
variable (s : State) (v : Executor)
@[simp] theorem State.setExecutor_timing : (s.setExecutor v).timing = s.timing := rfl
@[simp] theorem State.setExecutor_link : (s.setExecutor v).link = s.link := rfl
@[simp] theorem State.setExecutor_parser : (s.setExecutor v).parser = s.parser := rfl
@[simp] theorem State.setExecutor_cmdq : (s.setExecutor v).cmdq = s.cmdq := rfl
@[simp] theorem State.setExecutor_executor : (s.setExecutor v).executor = v := rfl
@[simp] theorem State.setExecutor_replies : (s.setExecutor v).replies = s.replies := rfl
@[simp] theorem State.setExecutor_notices : (s.setExecutor v).notices = s.notices := rfl
@[simp] theorem State.setExecutor_composer : (s.setExecutor v).composer = s.composer := rfl
@[simp] theorem State.setExecutor_staged : (s.setExecutor v).staged = s.staged := rfl
@[simp] theorem State.setExecutor_active : (s.setExecutor v).active = s.active := rfl
@[simp] theorem State.setExecutor_commit : (s.setExecutor v).commit = s.commit := rfl
@[simp] theorem State.setExecutor_groups : (s.setExecutor v).groups = s.groups := rfl
@[simp] theorem State.setExecutor_mixer : (s.setExecutor v).mixer = s.mixer := rfl
@[simp] theorem State.setExecutor_memory : (s.setExecutor v).memory = s.memory := rfl
@[simp] theorem State.setExecutor_powerUps : (s.setExecutor v).powerUps = s.powerUps := rfl
@[simp] theorem State.setExecutor_regions : (s.setExecutor v).regions = s.regions := rfl
@[simp] theorem State.setExecutor_capture : (s.setExecutor v).capture = s.capture := rfl
@[simp] theorem State.setExecutor_players : (s.setExecutor v).players = s.players := rfl
@[simp] theorem State.setExecutor_watches : (s.setExecutor v).watches = s.watches := rfl
@[simp] theorem State.setExecutor_pins : (s.setExecutor v).pins = s.pins := rfl
@[simp] theorem State.setExecutor_frame : (s.setExecutor v).frame = s.frame := rfl
@[simp] theorem State.setExecutor_pending : (s.setExecutor v).pending = s.pending := rfl
end

section
variable (s : State) (v : ReplyQueue)
@[simp] theorem State.setReplies_timing : (s.setReplies v).timing = s.timing := rfl
@[simp] theorem State.setReplies_link : (s.setReplies v).link = s.link := rfl
@[simp] theorem State.setReplies_parser : (s.setReplies v).parser = s.parser := rfl
@[simp] theorem State.setReplies_cmdq : (s.setReplies v).cmdq = s.cmdq := rfl
@[simp] theorem State.setReplies_executor : (s.setReplies v).executor = s.executor := rfl
@[simp] theorem State.setReplies_replies : (s.setReplies v).replies = v := rfl
@[simp] theorem State.setReplies_notices : (s.setReplies v).notices = s.notices := rfl
@[simp] theorem State.setReplies_composer : (s.setReplies v).composer = s.composer := rfl
@[simp] theorem State.setReplies_staged : (s.setReplies v).staged = s.staged := rfl
@[simp] theorem State.setReplies_active : (s.setReplies v).active = s.active := rfl
@[simp] theorem State.setReplies_commit : (s.setReplies v).commit = s.commit := rfl
@[simp] theorem State.setReplies_groups : (s.setReplies v).groups = s.groups := rfl
@[simp] theorem State.setReplies_mixer : (s.setReplies v).mixer = s.mixer := rfl
@[simp] theorem State.setReplies_memory : (s.setReplies v).memory = s.memory := rfl
@[simp] theorem State.setReplies_powerUps : (s.setReplies v).powerUps = s.powerUps := rfl
@[simp] theorem State.setReplies_regions : (s.setReplies v).regions = s.regions := rfl
@[simp] theorem State.setReplies_capture : (s.setReplies v).capture = s.capture := rfl
@[simp] theorem State.setReplies_players : (s.setReplies v).players = s.players := rfl
@[simp] theorem State.setReplies_watches : (s.setReplies v).watches = s.watches := rfl
@[simp] theorem State.setReplies_pins : (s.setReplies v).pins = s.pins := rfl
@[simp] theorem State.setReplies_frame : (s.setReplies v).frame = s.frame := rfl
@[simp] theorem State.setReplies_pending : (s.setReplies v).pending = s.pending := rfl
end

section
variable (s : State) (v : NoticeSide)
@[simp] theorem State.setNotices_timing : (s.setNotices v).timing = s.timing := rfl
@[simp] theorem State.setNotices_link : (s.setNotices v).link = s.link := rfl
@[simp] theorem State.setNotices_parser : (s.setNotices v).parser = s.parser := rfl
@[simp] theorem State.setNotices_cmdq : (s.setNotices v).cmdq = s.cmdq := rfl
@[simp] theorem State.setNotices_executor : (s.setNotices v).executor = s.executor := rfl
@[simp] theorem State.setNotices_replies : (s.setNotices v).replies = s.replies := rfl
@[simp] theorem State.setNotices_notices : (s.setNotices v).notices = v := rfl
@[simp] theorem State.setNotices_composer : (s.setNotices v).composer = s.composer := rfl
@[simp] theorem State.setNotices_staged : (s.setNotices v).staged = s.staged := rfl
@[simp] theorem State.setNotices_active : (s.setNotices v).active = s.active := rfl
@[simp] theorem State.setNotices_commit : (s.setNotices v).commit = s.commit := rfl
@[simp] theorem State.setNotices_groups : (s.setNotices v).groups = s.groups := rfl
@[simp] theorem State.setNotices_mixer : (s.setNotices v).mixer = s.mixer := rfl
@[simp] theorem State.setNotices_memory : (s.setNotices v).memory = s.memory := rfl
@[simp] theorem State.setNotices_powerUps : (s.setNotices v).powerUps = s.powerUps := rfl
@[simp] theorem State.setNotices_regions : (s.setNotices v).regions = s.regions := rfl
@[simp] theorem State.setNotices_capture : (s.setNotices v).capture = s.capture := rfl
@[simp] theorem State.setNotices_players : (s.setNotices v).players = s.players := rfl
@[simp] theorem State.setNotices_watches : (s.setNotices v).watches = s.watches := rfl
@[simp] theorem State.setNotices_pins : (s.setNotices v).pins = s.pins := rfl
@[simp] theorem State.setNotices_frame : (s.setNotices v).frame = s.frame := rfl
@[simp] theorem State.setNotices_pending : (s.setNotices v).pending = s.pending := rfl
end

section
variable (s : State) (v : Composer)
@[simp] theorem State.setComposer_timing : (s.setComposer v).timing = s.timing := rfl
@[simp] theorem State.setComposer_link : (s.setComposer v).link = s.link := rfl
@[simp] theorem State.setComposer_parser : (s.setComposer v).parser = s.parser := rfl
@[simp] theorem State.setComposer_cmdq : (s.setComposer v).cmdq = s.cmdq := rfl
@[simp] theorem State.setComposer_executor : (s.setComposer v).executor = s.executor := rfl
@[simp] theorem State.setComposer_replies : (s.setComposer v).replies = s.replies := rfl
@[simp] theorem State.setComposer_notices : (s.setComposer v).notices = s.notices := rfl
@[simp] theorem State.setComposer_composer : (s.setComposer v).composer = v := rfl
@[simp] theorem State.setComposer_staged : (s.setComposer v).staged = s.staged := rfl
@[simp] theorem State.setComposer_active : (s.setComposer v).active = s.active := rfl
@[simp] theorem State.setComposer_commit : (s.setComposer v).commit = s.commit := rfl
@[simp] theorem State.setComposer_groups : (s.setComposer v).groups = s.groups := rfl
@[simp] theorem State.setComposer_mixer : (s.setComposer v).mixer = s.mixer := rfl
@[simp] theorem State.setComposer_memory : (s.setComposer v).memory = s.memory := rfl
@[simp] theorem State.setComposer_powerUps : (s.setComposer v).powerUps = s.powerUps := rfl
@[simp] theorem State.setComposer_regions : (s.setComposer v).regions = s.regions := rfl
@[simp] theorem State.setComposer_capture : (s.setComposer v).capture = s.capture := rfl
@[simp] theorem State.setComposer_players : (s.setComposer v).players = s.players := rfl
@[simp] theorem State.setComposer_watches : (s.setComposer v).watches = s.watches := rfl
@[simp] theorem State.setComposer_pins : (s.setComposer v).pins = s.pins := rfl
@[simp] theorem State.setComposer_frame : (s.setComposer v).frame = s.frame := rfl
@[simp] theorem State.setComposer_pending : (s.setComposer v).pending = s.pending := rfl
end

section
variable (s : State) (v : Table 6 Staged)
@[simp] theorem State.setStaged_timing : (s.setStaged v).timing = s.timing := rfl
@[simp] theorem State.setStaged_link : (s.setStaged v).link = s.link := rfl
@[simp] theorem State.setStaged_parser : (s.setStaged v).parser = s.parser := rfl
@[simp] theorem State.setStaged_cmdq : (s.setStaged v).cmdq = s.cmdq := rfl
@[simp] theorem State.setStaged_executor : (s.setStaged v).executor = s.executor := rfl
@[simp] theorem State.setStaged_replies : (s.setStaged v).replies = s.replies := rfl
@[simp] theorem State.setStaged_notices : (s.setStaged v).notices = s.notices := rfl
@[simp] theorem State.setStaged_composer : (s.setStaged v).composer = s.composer := rfl
@[simp] theorem State.setStaged_staged : (s.setStaged v).staged = v := rfl
@[simp] theorem State.setStaged_active : (s.setStaged v).active = s.active := rfl
@[simp] theorem State.setStaged_commit : (s.setStaged v).commit = s.commit := rfl
@[simp] theorem State.setStaged_groups : (s.setStaged v).groups = s.groups := rfl
@[simp] theorem State.setStaged_mixer : (s.setStaged v).mixer = s.mixer := rfl
@[simp] theorem State.setStaged_memory : (s.setStaged v).memory = s.memory := rfl
@[simp] theorem State.setStaged_powerUps : (s.setStaged v).powerUps = s.powerUps := rfl
@[simp] theorem State.setStaged_regions : (s.setStaged v).regions = s.regions := rfl
@[simp] theorem State.setStaged_capture : (s.setStaged v).capture = s.capture := rfl
@[simp] theorem State.setStaged_players : (s.setStaged v).players = s.players := rfl
@[simp] theorem State.setStaged_watches : (s.setStaged v).watches = s.watches := rfl
@[simp] theorem State.setStaged_pins : (s.setStaged v).pins = s.pins := rfl
@[simp] theorem State.setStaged_frame : (s.setStaged v).frame = s.frame := rfl
@[simp] theorem State.setStaged_pending : (s.setStaged v).pending = s.pending := rfl
end

section
variable (s : State) (v : Table 6 Active)
@[simp] theorem State.setActive_timing : (s.setActive v).timing = s.timing := rfl
@[simp] theorem State.setActive_link : (s.setActive v).link = s.link := rfl
@[simp] theorem State.setActive_parser : (s.setActive v).parser = s.parser := rfl
@[simp] theorem State.setActive_cmdq : (s.setActive v).cmdq = s.cmdq := rfl
@[simp] theorem State.setActive_executor : (s.setActive v).executor = s.executor := rfl
@[simp] theorem State.setActive_replies : (s.setActive v).replies = s.replies := rfl
@[simp] theorem State.setActive_notices : (s.setActive v).notices = s.notices := rfl
@[simp] theorem State.setActive_composer : (s.setActive v).composer = s.composer := rfl
@[simp] theorem State.setActive_staged : (s.setActive v).staged = s.staged := rfl
@[simp] theorem State.setActive_active : (s.setActive v).active = v := rfl
@[simp] theorem State.setActive_commit : (s.setActive v).commit = s.commit := rfl
@[simp] theorem State.setActive_groups : (s.setActive v).groups = s.groups := rfl
@[simp] theorem State.setActive_mixer : (s.setActive v).mixer = s.mixer := rfl
@[simp] theorem State.setActive_memory : (s.setActive v).memory = s.memory := rfl
@[simp] theorem State.setActive_powerUps : (s.setActive v).powerUps = s.powerUps := rfl
@[simp] theorem State.setActive_regions : (s.setActive v).regions = s.regions := rfl
@[simp] theorem State.setActive_capture : (s.setActive v).capture = s.capture := rfl
@[simp] theorem State.setActive_players : (s.setActive v).players = s.players := rfl
@[simp] theorem State.setActive_watches : (s.setActive v).watches = s.watches := rfl
@[simp] theorem State.setActive_pins : (s.setActive v).pins = s.pins := rfl
@[simp] theorem State.setActive_frame : (s.setActive v).frame = s.frame := rfl
@[simp] theorem State.setActive_pending : (s.setActive v).pending = s.pending := rfl
end

section
variable (s : State) (v : Option Commit)
@[simp] theorem State.setCommit_timing : (s.setCommit v).timing = s.timing := rfl
@[simp] theorem State.setCommit_link : (s.setCommit v).link = s.link := rfl
@[simp] theorem State.setCommit_parser : (s.setCommit v).parser = s.parser := rfl
@[simp] theorem State.setCommit_cmdq : (s.setCommit v).cmdq = s.cmdq := rfl
@[simp] theorem State.setCommit_executor : (s.setCommit v).executor = s.executor := rfl
@[simp] theorem State.setCommit_replies : (s.setCommit v).replies = s.replies := rfl
@[simp] theorem State.setCommit_notices : (s.setCommit v).notices = s.notices := rfl
@[simp] theorem State.setCommit_composer : (s.setCommit v).composer = s.composer := rfl
@[simp] theorem State.setCommit_staged : (s.setCommit v).staged = s.staged := rfl
@[simp] theorem State.setCommit_active : (s.setCommit v).active = s.active := rfl
@[simp] theorem State.setCommit_commit : (s.setCommit v).commit = v := rfl
@[simp] theorem State.setCommit_groups : (s.setCommit v).groups = s.groups := rfl
@[simp] theorem State.setCommit_mixer : (s.setCommit v).mixer = s.mixer := rfl
@[simp] theorem State.setCommit_memory : (s.setCommit v).memory = s.memory := rfl
@[simp] theorem State.setCommit_powerUps : (s.setCommit v).powerUps = s.powerUps := rfl
@[simp] theorem State.setCommit_regions : (s.setCommit v).regions = s.regions := rfl
@[simp] theorem State.setCommit_capture : (s.setCommit v).capture = s.capture := rfl
@[simp] theorem State.setCommit_players : (s.setCommit v).players = s.players := rfl
@[simp] theorem State.setCommit_watches : (s.setCommit v).watches = s.watches := rfl
@[simp] theorem State.setCommit_pins : (s.setCommit v).pins = s.pins := rfl
@[simp] theorem State.setCommit_frame : (s.setCommit v).frame = s.frame := rfl
@[simp] theorem State.setCommit_pending : (s.setCommit v).pending = s.pending := rfl
end

section
variable (s : State) (v : Table 3 Group)
@[simp] theorem State.setGroups_timing : (s.setGroups v).timing = s.timing := rfl
@[simp] theorem State.setGroups_link : (s.setGroups v).link = s.link := rfl
@[simp] theorem State.setGroups_parser : (s.setGroups v).parser = s.parser := rfl
@[simp] theorem State.setGroups_cmdq : (s.setGroups v).cmdq = s.cmdq := rfl
@[simp] theorem State.setGroups_executor : (s.setGroups v).executor = s.executor := rfl
@[simp] theorem State.setGroups_replies : (s.setGroups v).replies = s.replies := rfl
@[simp] theorem State.setGroups_notices : (s.setGroups v).notices = s.notices := rfl
@[simp] theorem State.setGroups_composer : (s.setGroups v).composer = s.composer := rfl
@[simp] theorem State.setGroups_staged : (s.setGroups v).staged = s.staged := rfl
@[simp] theorem State.setGroups_active : (s.setGroups v).active = s.active := rfl
@[simp] theorem State.setGroups_commit : (s.setGroups v).commit = s.commit := rfl
@[simp] theorem State.setGroups_groups : (s.setGroups v).groups = v := rfl
@[simp] theorem State.setGroups_mixer : (s.setGroups v).mixer = s.mixer := rfl
@[simp] theorem State.setGroups_memory : (s.setGroups v).memory = s.memory := rfl
@[simp] theorem State.setGroups_powerUps : (s.setGroups v).powerUps = s.powerUps := rfl
@[simp] theorem State.setGroups_regions : (s.setGroups v).regions = s.regions := rfl
@[simp] theorem State.setGroups_capture : (s.setGroups v).capture = s.capture := rfl
@[simp] theorem State.setGroups_players : (s.setGroups v).players = s.players := rfl
@[simp] theorem State.setGroups_watches : (s.setGroups v).watches = s.watches := rfl
@[simp] theorem State.setGroups_pins : (s.setGroups v).pins = s.pins := rfl
@[simp] theorem State.setGroups_frame : (s.setGroups v).frame = s.frame := rfl
@[simp] theorem State.setGroups_pending : (s.setGroups v).pending = s.pending := rfl
end

section
variable (s : State) (v : Mixer)
@[simp] theorem State.setMixer_timing : (s.setMixer v).timing = s.timing := rfl
@[simp] theorem State.setMixer_link : (s.setMixer v).link = s.link := rfl
@[simp] theorem State.setMixer_parser : (s.setMixer v).parser = s.parser := rfl
@[simp] theorem State.setMixer_cmdq : (s.setMixer v).cmdq = s.cmdq := rfl
@[simp] theorem State.setMixer_executor : (s.setMixer v).executor = s.executor := rfl
@[simp] theorem State.setMixer_replies : (s.setMixer v).replies = s.replies := rfl
@[simp] theorem State.setMixer_notices : (s.setMixer v).notices = s.notices := rfl
@[simp] theorem State.setMixer_composer : (s.setMixer v).composer = s.composer := rfl
@[simp] theorem State.setMixer_staged : (s.setMixer v).staged = s.staged := rfl
@[simp] theorem State.setMixer_active : (s.setMixer v).active = s.active := rfl
@[simp] theorem State.setMixer_commit : (s.setMixer v).commit = s.commit := rfl
@[simp] theorem State.setMixer_groups : (s.setMixer v).groups = s.groups := rfl
@[simp] theorem State.setMixer_mixer : (s.setMixer v).mixer = v := rfl
@[simp] theorem State.setMixer_memory : (s.setMixer v).memory = s.memory := rfl
@[simp] theorem State.setMixer_powerUps : (s.setMixer v).powerUps = s.powerUps := rfl
@[simp] theorem State.setMixer_regions : (s.setMixer v).regions = s.regions := rfl
@[simp] theorem State.setMixer_capture : (s.setMixer v).capture = s.capture := rfl
@[simp] theorem State.setMixer_players : (s.setMixer v).players = s.players := rfl
@[simp] theorem State.setMixer_watches : (s.setMixer v).watches = s.watches := rfl
@[simp] theorem State.setMixer_pins : (s.setMixer v).pins = s.pins := rfl
@[simp] theorem State.setMixer_frame : (s.setMixer v).frame = s.frame := rfl
@[simp] theorem State.setMixer_pending : (s.setMixer v).pending = s.pending := rfl
end

section
variable (s : State) (v : Memory)
@[simp] theorem State.setMemory_timing : (s.setMemory v).timing = s.timing := rfl
@[simp] theorem State.setMemory_link : (s.setMemory v).link = s.link := rfl
@[simp] theorem State.setMemory_parser : (s.setMemory v).parser = s.parser := rfl
@[simp] theorem State.setMemory_cmdq : (s.setMemory v).cmdq = s.cmdq := rfl
@[simp] theorem State.setMemory_executor : (s.setMemory v).executor = s.executor := rfl
@[simp] theorem State.setMemory_replies : (s.setMemory v).replies = s.replies := rfl
@[simp] theorem State.setMemory_notices : (s.setMemory v).notices = s.notices := rfl
@[simp] theorem State.setMemory_composer : (s.setMemory v).composer = s.composer := rfl
@[simp] theorem State.setMemory_staged : (s.setMemory v).staged = s.staged := rfl
@[simp] theorem State.setMemory_active : (s.setMemory v).active = s.active := rfl
@[simp] theorem State.setMemory_commit : (s.setMemory v).commit = s.commit := rfl
@[simp] theorem State.setMemory_groups : (s.setMemory v).groups = s.groups := rfl
@[simp] theorem State.setMemory_mixer : (s.setMemory v).mixer = s.mixer := rfl
@[simp] theorem State.setMemory_memory : (s.setMemory v).memory = v := rfl
@[simp] theorem State.setMemory_powerUps : (s.setMemory v).powerUps = s.powerUps := rfl
@[simp] theorem State.setMemory_regions : (s.setMemory v).regions = s.regions := rfl
@[simp] theorem State.setMemory_capture : (s.setMemory v).capture = s.capture := rfl
@[simp] theorem State.setMemory_players : (s.setMemory v).players = s.players := rfl
@[simp] theorem State.setMemory_watches : (s.setMemory v).watches = s.watches := rfl
@[simp] theorem State.setMemory_pins : (s.setMemory v).pins = s.pins := rfl
@[simp] theorem State.setMemory_frame : (s.setMemory v).frame = s.frame := rfl
@[simp] theorem State.setMemory_pending : (s.setMemory v).pending = s.pending := rfl
end

section
variable (s : State) (v : Nat)
@[simp] theorem State.setPowerUps_timing : (s.setPowerUps v).timing = s.timing := rfl
@[simp] theorem State.setPowerUps_link : (s.setPowerUps v).link = s.link := rfl
@[simp] theorem State.setPowerUps_parser : (s.setPowerUps v).parser = s.parser := rfl
@[simp] theorem State.setPowerUps_cmdq : (s.setPowerUps v).cmdq = s.cmdq := rfl
@[simp] theorem State.setPowerUps_executor : (s.setPowerUps v).executor = s.executor := rfl
@[simp] theorem State.setPowerUps_replies : (s.setPowerUps v).replies = s.replies := rfl
@[simp] theorem State.setPowerUps_notices : (s.setPowerUps v).notices = s.notices := rfl
@[simp] theorem State.setPowerUps_composer : (s.setPowerUps v).composer = s.composer := rfl
@[simp] theorem State.setPowerUps_staged : (s.setPowerUps v).staged = s.staged := rfl
@[simp] theorem State.setPowerUps_active : (s.setPowerUps v).active = s.active := rfl
@[simp] theorem State.setPowerUps_commit : (s.setPowerUps v).commit = s.commit := rfl
@[simp] theorem State.setPowerUps_groups : (s.setPowerUps v).groups = s.groups := rfl
@[simp] theorem State.setPowerUps_mixer : (s.setPowerUps v).mixer = s.mixer := rfl
@[simp] theorem State.setPowerUps_memory : (s.setPowerUps v).memory = s.memory := rfl
@[simp] theorem State.setPowerUps_powerUps : (s.setPowerUps v).powerUps = v := rfl
@[simp] theorem State.setPowerUps_regions : (s.setPowerUps v).regions = s.regions := rfl
@[simp] theorem State.setPowerUps_capture : (s.setPowerUps v).capture = s.capture := rfl
@[simp] theorem State.setPowerUps_players : (s.setPowerUps v).players = s.players := rfl
@[simp] theorem State.setPowerUps_watches : (s.setPowerUps v).watches = s.watches := rfl
@[simp] theorem State.setPowerUps_pins : (s.setPowerUps v).pins = s.pins := rfl
@[simp] theorem State.setPowerUps_frame : (s.setPowerUps v).frame = s.frame := rfl
@[simp] theorem State.setPowerUps_pending : (s.setPowerUps v).pending = s.pending := rfl
end

section
variable (s : State) (v : Table 3 (Option Region))
@[simp] theorem State.setRegions_timing : (s.setRegions v).timing = s.timing := rfl
@[simp] theorem State.setRegions_link : (s.setRegions v).link = s.link := rfl
@[simp] theorem State.setRegions_parser : (s.setRegions v).parser = s.parser := rfl
@[simp] theorem State.setRegions_cmdq : (s.setRegions v).cmdq = s.cmdq := rfl
@[simp] theorem State.setRegions_executor : (s.setRegions v).executor = s.executor := rfl
@[simp] theorem State.setRegions_replies : (s.setRegions v).replies = s.replies := rfl
@[simp] theorem State.setRegions_notices : (s.setRegions v).notices = s.notices := rfl
@[simp] theorem State.setRegions_composer : (s.setRegions v).composer = s.composer := rfl
@[simp] theorem State.setRegions_staged : (s.setRegions v).staged = s.staged := rfl
@[simp] theorem State.setRegions_active : (s.setRegions v).active = s.active := rfl
@[simp] theorem State.setRegions_commit : (s.setRegions v).commit = s.commit := rfl
@[simp] theorem State.setRegions_groups : (s.setRegions v).groups = s.groups := rfl
@[simp] theorem State.setRegions_mixer : (s.setRegions v).mixer = s.mixer := rfl
@[simp] theorem State.setRegions_memory : (s.setRegions v).memory = s.memory := rfl
@[simp] theorem State.setRegions_powerUps : (s.setRegions v).powerUps = s.powerUps := rfl
@[simp] theorem State.setRegions_regions : (s.setRegions v).regions = v := rfl
@[simp] theorem State.setRegions_capture : (s.setRegions v).capture = s.capture := rfl
@[simp] theorem State.setRegions_players : (s.setRegions v).players = s.players := rfl
@[simp] theorem State.setRegions_watches : (s.setRegions v).watches = s.watches := rfl
@[simp] theorem State.setRegions_pins : (s.setRegions v).pins = s.pins := rfl
@[simp] theorem State.setRegions_frame : (s.setRegions v).frame = s.frame := rfl
@[simp] theorem State.setRegions_pending : (s.setRegions v).pending = s.pending := rfl
end

section
variable (s : State) (v : Capture)
@[simp] theorem State.setCapture_timing : (s.setCapture v).timing = s.timing := rfl
@[simp] theorem State.setCapture_link : (s.setCapture v).link = s.link := rfl
@[simp] theorem State.setCapture_parser : (s.setCapture v).parser = s.parser := rfl
@[simp] theorem State.setCapture_cmdq : (s.setCapture v).cmdq = s.cmdq := rfl
@[simp] theorem State.setCapture_executor : (s.setCapture v).executor = s.executor := rfl
@[simp] theorem State.setCapture_replies : (s.setCapture v).replies = s.replies := rfl
@[simp] theorem State.setCapture_notices : (s.setCapture v).notices = s.notices := rfl
@[simp] theorem State.setCapture_composer : (s.setCapture v).composer = s.composer := rfl
@[simp] theorem State.setCapture_staged : (s.setCapture v).staged = s.staged := rfl
@[simp] theorem State.setCapture_active : (s.setCapture v).active = s.active := rfl
@[simp] theorem State.setCapture_commit : (s.setCapture v).commit = s.commit := rfl
@[simp] theorem State.setCapture_groups : (s.setCapture v).groups = s.groups := rfl
@[simp] theorem State.setCapture_mixer : (s.setCapture v).mixer = s.mixer := rfl
@[simp] theorem State.setCapture_memory : (s.setCapture v).memory = s.memory := rfl
@[simp] theorem State.setCapture_powerUps : (s.setCapture v).powerUps = s.powerUps := rfl
@[simp] theorem State.setCapture_regions : (s.setCapture v).regions = s.regions := rfl
@[simp] theorem State.setCapture_capture : (s.setCapture v).capture = v := rfl
@[simp] theorem State.setCapture_players : (s.setCapture v).players = s.players := rfl
@[simp] theorem State.setCapture_watches : (s.setCapture v).watches = s.watches := rfl
@[simp] theorem State.setCapture_pins : (s.setCapture v).pins = s.pins := rfl
@[simp] theorem State.setCapture_frame : (s.setCapture v).frame = s.frame := rfl
@[simp] theorem State.setCapture_pending : (s.setCapture v).pending = s.pending := rfl
end

section
variable (s : State) (v : Table 1 Player)
@[simp] theorem State.setPlayers_timing : (s.setPlayers v).timing = s.timing := rfl
@[simp] theorem State.setPlayers_link : (s.setPlayers v).link = s.link := rfl
@[simp] theorem State.setPlayers_parser : (s.setPlayers v).parser = s.parser := rfl
@[simp] theorem State.setPlayers_cmdq : (s.setPlayers v).cmdq = s.cmdq := rfl
@[simp] theorem State.setPlayers_executor : (s.setPlayers v).executor = s.executor := rfl
@[simp] theorem State.setPlayers_replies : (s.setPlayers v).replies = s.replies := rfl
@[simp] theorem State.setPlayers_notices : (s.setPlayers v).notices = s.notices := rfl
@[simp] theorem State.setPlayers_composer : (s.setPlayers v).composer = s.composer := rfl
@[simp] theorem State.setPlayers_staged : (s.setPlayers v).staged = s.staged := rfl
@[simp] theorem State.setPlayers_active : (s.setPlayers v).active = s.active := rfl
@[simp] theorem State.setPlayers_commit : (s.setPlayers v).commit = s.commit := rfl
@[simp] theorem State.setPlayers_groups : (s.setPlayers v).groups = s.groups := rfl
@[simp] theorem State.setPlayers_mixer : (s.setPlayers v).mixer = s.mixer := rfl
@[simp] theorem State.setPlayers_memory : (s.setPlayers v).memory = s.memory := rfl
@[simp] theorem State.setPlayers_powerUps : (s.setPlayers v).powerUps = s.powerUps := rfl
@[simp] theorem State.setPlayers_regions : (s.setPlayers v).regions = s.regions := rfl
@[simp] theorem State.setPlayers_capture : (s.setPlayers v).capture = s.capture := rfl
@[simp] theorem State.setPlayers_players : (s.setPlayers v).players = v := rfl
@[simp] theorem State.setPlayers_watches : (s.setPlayers v).watches = s.watches := rfl
@[simp] theorem State.setPlayers_pins : (s.setPlayers v).pins = s.pins := rfl
@[simp] theorem State.setPlayers_frame : (s.setPlayers v).frame = s.frame := rfl
@[simp] theorem State.setPlayers_pending : (s.setPlayers v).pending = s.pending := rfl
end

section
variable (s : State) (v : Table 4 Watch)
@[simp] theorem State.setWatches_timing : (s.setWatches v).timing = s.timing := rfl
@[simp] theorem State.setWatches_link : (s.setWatches v).link = s.link := rfl
@[simp] theorem State.setWatches_parser : (s.setWatches v).parser = s.parser := rfl
@[simp] theorem State.setWatches_cmdq : (s.setWatches v).cmdq = s.cmdq := rfl
@[simp] theorem State.setWatches_executor : (s.setWatches v).executor = s.executor := rfl
@[simp] theorem State.setWatches_replies : (s.setWatches v).replies = s.replies := rfl
@[simp] theorem State.setWatches_notices : (s.setWatches v).notices = s.notices := rfl
@[simp] theorem State.setWatches_composer : (s.setWatches v).composer = s.composer := rfl
@[simp] theorem State.setWatches_staged : (s.setWatches v).staged = s.staged := rfl
@[simp] theorem State.setWatches_active : (s.setWatches v).active = s.active := rfl
@[simp] theorem State.setWatches_commit : (s.setWatches v).commit = s.commit := rfl
@[simp] theorem State.setWatches_groups : (s.setWatches v).groups = s.groups := rfl
@[simp] theorem State.setWatches_mixer : (s.setWatches v).mixer = s.mixer := rfl
@[simp] theorem State.setWatches_memory : (s.setWatches v).memory = s.memory := rfl
@[simp] theorem State.setWatches_powerUps : (s.setWatches v).powerUps = s.powerUps := rfl
@[simp] theorem State.setWatches_regions : (s.setWatches v).regions = s.regions := rfl
@[simp] theorem State.setWatches_capture : (s.setWatches v).capture = s.capture := rfl
@[simp] theorem State.setWatches_players : (s.setWatches v).players = s.players := rfl
@[simp] theorem State.setWatches_watches : (s.setWatches v).watches = v := rfl
@[simp] theorem State.setWatches_pins : (s.setWatches v).pins = s.pins := rfl
@[simp] theorem State.setWatches_frame : (s.setWatches v).frame = s.frame := rfl
@[simp] theorem State.setWatches_pending : (s.setWatches v).pending = s.pending := rfl
end

section
variable (s : State) (v : Table 6 (Option LinkBits))
@[simp] theorem State.setPins_timing : (s.setPins v).timing = s.timing := rfl
@[simp] theorem State.setPins_link : (s.setPins v).link = s.link := rfl
@[simp] theorem State.setPins_parser : (s.setPins v).parser = s.parser := rfl
@[simp] theorem State.setPins_cmdq : (s.setPins v).cmdq = s.cmdq := rfl
@[simp] theorem State.setPins_executor : (s.setPins v).executor = s.executor := rfl
@[simp] theorem State.setPins_replies : (s.setPins v).replies = s.replies := rfl
@[simp] theorem State.setPins_notices : (s.setPins v).notices = s.notices := rfl
@[simp] theorem State.setPins_composer : (s.setPins v).composer = s.composer := rfl
@[simp] theorem State.setPins_staged : (s.setPins v).staged = s.staged := rfl
@[simp] theorem State.setPins_active : (s.setPins v).active = s.active := rfl
@[simp] theorem State.setPins_commit : (s.setPins v).commit = s.commit := rfl
@[simp] theorem State.setPins_groups : (s.setPins v).groups = s.groups := rfl
@[simp] theorem State.setPins_mixer : (s.setPins v).mixer = s.mixer := rfl
@[simp] theorem State.setPins_memory : (s.setPins v).memory = s.memory := rfl
@[simp] theorem State.setPins_powerUps : (s.setPins v).powerUps = s.powerUps := rfl
@[simp] theorem State.setPins_regions : (s.setPins v).regions = s.regions := rfl
@[simp] theorem State.setPins_capture : (s.setPins v).capture = s.capture := rfl
@[simp] theorem State.setPins_players : (s.setPins v).players = s.players := rfl
@[simp] theorem State.setPins_watches : (s.setPins v).watches = s.watches := rfl
@[simp] theorem State.setPins_pins : (s.setPins v).pins = v := rfl
@[simp] theorem State.setPins_frame : (s.setPins v).frame = s.frame := rfl
@[simp] theorem State.setPins_pending : (s.setPins v).pending = s.pending := rfl
end

section
variable (s : State) (v : Option FrameCtx)
@[simp] theorem State.setFrame_timing : (s.setFrame v).timing = s.timing := rfl
@[simp] theorem State.setFrame_link : (s.setFrame v).link = s.link := rfl
@[simp] theorem State.setFrame_parser : (s.setFrame v).parser = s.parser := rfl
@[simp] theorem State.setFrame_cmdq : (s.setFrame v).cmdq = s.cmdq := rfl
@[simp] theorem State.setFrame_executor : (s.setFrame v).executor = s.executor := rfl
@[simp] theorem State.setFrame_replies : (s.setFrame v).replies = s.replies := rfl
@[simp] theorem State.setFrame_notices : (s.setFrame v).notices = s.notices := rfl
@[simp] theorem State.setFrame_composer : (s.setFrame v).composer = s.composer := rfl
@[simp] theorem State.setFrame_staged : (s.setFrame v).staged = s.staged := rfl
@[simp] theorem State.setFrame_active : (s.setFrame v).active = s.active := rfl
@[simp] theorem State.setFrame_commit : (s.setFrame v).commit = s.commit := rfl
@[simp] theorem State.setFrame_groups : (s.setFrame v).groups = s.groups := rfl
@[simp] theorem State.setFrame_mixer : (s.setFrame v).mixer = s.mixer := rfl
@[simp] theorem State.setFrame_memory : (s.setFrame v).memory = s.memory := rfl
@[simp] theorem State.setFrame_powerUps : (s.setFrame v).powerUps = s.powerUps := rfl
@[simp] theorem State.setFrame_regions : (s.setFrame v).regions = s.regions := rfl
@[simp] theorem State.setFrame_capture : (s.setFrame v).capture = s.capture := rfl
@[simp] theorem State.setFrame_players : (s.setFrame v).players = s.players := rfl
@[simp] theorem State.setFrame_watches : (s.setFrame v).watches = s.watches := rfl
@[simp] theorem State.setFrame_pins : (s.setFrame v).pins = s.pins := rfl
@[simp] theorem State.setFrame_frame : (s.setFrame v).frame = v := rfl
@[simp] theorem State.setFrame_pending : (s.setFrame v).pending = s.pending := rfl
end

section
variable (s : State) (v : List Instr)
@[simp] theorem State.setPending_timing : (s.setPending v).timing = s.timing := rfl
@[simp] theorem State.setPending_link : (s.setPending v).link = s.link := rfl
@[simp] theorem State.setPending_parser : (s.setPending v).parser = s.parser := rfl
@[simp] theorem State.setPending_cmdq : (s.setPending v).cmdq = s.cmdq := rfl
@[simp] theorem State.setPending_executor : (s.setPending v).executor = s.executor := rfl
@[simp] theorem State.setPending_replies : (s.setPending v).replies = s.replies := rfl
@[simp] theorem State.setPending_notices : (s.setPending v).notices = s.notices := rfl
@[simp] theorem State.setPending_composer : (s.setPending v).composer = s.composer := rfl
@[simp] theorem State.setPending_staged : (s.setPending v).staged = s.staged := rfl
@[simp] theorem State.setPending_active : (s.setPending v).active = s.active := rfl
@[simp] theorem State.setPending_commit : (s.setPending v).commit = s.commit := rfl
@[simp] theorem State.setPending_groups : (s.setPending v).groups = s.groups := rfl
@[simp] theorem State.setPending_mixer : (s.setPending v).mixer = s.mixer := rfl
@[simp] theorem State.setPending_memory : (s.setPending v).memory = s.memory := rfl
@[simp] theorem State.setPending_powerUps : (s.setPending v).powerUps = s.powerUps := rfl
@[simp] theorem State.setPending_regions : (s.setPending v).regions = s.regions := rfl
@[simp] theorem State.setPending_capture : (s.setPending v).capture = s.capture := rfl
@[simp] theorem State.setPending_players : (s.setPending v).players = s.players := rfl
@[simp] theorem State.setPending_watches : (s.setPending v).watches = s.watches := rfl
@[simp] theorem State.setPending_pins : (s.setPending v).pins = s.pins := rfl
@[simp] theorem State.setPending_frame : (s.setPending v).frame = s.frame := rfl
@[simp] theorem State.setPending_pending : (s.setPending v).pending = v := rfl
end

end Sys2Proof.Machine
end

