-- ==== Sys2Proof/Laws/Event.lean ====
section
/-! SUPPORT. The running of a timing event: what every phase keeps, the event and every command keep. -/

namespace Sys2Proof

/-- A ready phase is one of those still to come. -/
theorem mem_of_nextPhase {first todo : List Phase} {p : Phase} (h : nextPhase first todo = some p) : p ∈ todo := by
  have hr : Phase.ready todo p = true := by
    simp only [nextPhase] at h
    cases h1 : first.find? (Phase.ready todo) with
    | none => rw [h1] at h; exact List.find?_some h
    | some q =>
      rw [h1] at h
      cases h
      exact List.find?_some h1
  simp only [Phase.ready, Bool.and_eq_true, List.contains_iff_mem] at hr
  exact hr.1

/-- An order of phases is a rearrangement of them. -/
theorem schedule_perm : ∀ (n : Nat) (first todo : List Phase), (schedule n first todo).Perm todo := by
  intro n
  induction n with
  | zero => intro first todo; exact List.Perm.refl _
  | succ n ih =>
    intro first todo
    simp only [schedule]
    split
    · exact List.Perm.refl _
    · rename_i p hp
      exact ((ih (first.erase p) (todo.erase p)).cons p).trans (List.perm_cons_erase (mem_of_nextPhase hp)).symm

/-- Whatever order a `Sched` asks for, each phase is taken once. -/
theorem Sched.order_perm (sch : Sched) (phases : List Phase) : (sch.order phases).Perm phases := by
  simp only [Sched.order]
  split
  · exact List.Perm.refl _
  · exact schedule_perm _ _ _

end Sys2Proof

namespace Sys2Proof.Machine

/-- What a frame hands over depends on the input lanes, the format and the link assignment alone (R3, R22). -/
theorem State.handOver_congr {s u : State} (h1 : u.timing.inLanes = s.timing.inLanes)
    (h2 : u.timing.format = s.timing.format) (h3 : u.link = s.link) (kind : FrameKind) (entry : Option Entry)
    (inp : FrameIn) (todo : List Phase) : u.handOver kind entry inp todo = s.handOver kind entry inp todo := by
  simp only [State.handOver, h1, h2, h3]

/-- A frame has at most 64 phases, and at least one. -/
theorem State.framePhases_length (s : State) (arrival : Bool) :
    0 < (s.framePhases arrival).length ∧ (s.framePhases arrival).length + 2 ≤ 64 := by
  simp only [State.framePhases, State.closePhases, Table.numbers, Config.commandQueueSize]
  split <;> split <;> simp

/-- An event of which every phase is left open hands over its frame and does nothing else yet. -/
theorem State.event_keep (s : State) (kind : FrameKind) (entry : Option Entry) (inp : FrameIn) (phases : List Phase)
    (sch : Sched) (h0 : 0 < phases.length) (h : phases.length ≤ sch.keep) :
    s.event kind entry inp phases sch = s.setFrame (some (s.handOver kind entry inp (sch.order phases))) := by
  have hl := (sch.order_perm phases).length_eq
  simp only [State.event, State.runWhile, State.setFrame_frame]
  split
  · rename_i hn; rw [hn] at hl; simp at hl; omega
  · rename_i p rest hp
    rw [hp] at hl
    rw [if_neg (by simp only [decide_eq_true_eq]; omega)]
    rfl

/-- What the phases and the event's own record keep, a run of phases keeps. -/
theorem State.runWhile_keeps {P : State → Prop} (hf : ∀ s f, P s → P (s.setFrame f))
    (hp : ∀ s p, P s → P (s.runPhase p)) (go : List Phase → Bool) :
    ∀ (n : Nat) (s : State), P s → P (s.runWhile go n) := by
  intro n
  induction n with
  | zero => intro s hs; exact hs
  | succ n ih =>
    intro s hs
    simp only [State.runWhile]
    split
    · exact hs
    · split
      · exact hf _ _ hs
      · split
        · exact ih _ (hp _ _ (hf _ _ hs))
        · exact hs

/-- Taking all that is open keeps what the phases keep. -/
theorem State.finish_keeps {P : State → Prop} (hf : ∀ s f, P s → P (s.setFrame f))
    (hp : ∀ s p, P s → P (s.runPhase p)) {s : State} (hs : P s) : P s.finish :=
  State.runWhile_keeps hf hp _ _ _ hs

/-- A timing event keeps what the phases keep. -/
theorem State.event_keeps {P : State → Prop} (hf : ∀ s f, P s → P (s.setFrame f))
    (hp : ∀ s p, P s → P (s.runPhase p)) {s : State} (kind : FrameKind) (entry : Option Entry) (inp : FrameIn)
    (phases : List Phase) (sch : Sched) (hs : P s) : P (s.event kind entry inp phases sch) :=
  State.runWhile_keeps hf hp _ _ _ (hf _ _ hs)

/-- Taking what must come before a phase keeps what the phases keep. -/
theorem State.upTo_keeps {P : State → Prop} (hf : ∀ s f, P s → P (s.setFrame f))
    (hp : ∀ s p, P s → P (s.runPhase p)) {s : State} (p : Phase) (hs : P s) : P (s.upTo p) := by
  simp only [State.upTo]
  split
  · exact hs
  · exact State.runWhile_keeps hf hp _ _ _ (hf _ _ hs)

/-- A command that takes one phase keeps what the phases keep. -/
theorem State.takeDue_keeps {P : State → Prop} (hf : ∀ s f, P s → P (s.setFrame f))
    (hp : ∀ s p, P s → P (s.runPhase p)) {s : State} (p : Phase) (due : State → FrameCtx → Bool) (hs : P s) :
    P (s.takeDue p due) := by
  simp only [State.takeDue]
  have hu := State.upTo_keeps hf hp p hs
  split
  · exact hs
  · split
    · simp only [State.closeEvent]
      split
      · exact hf _ _ (hp _ _ (hf _ _ hu))
      · exact hp _ _ (hf _ _ hu)
    · exact hs

/-- With no event open there is nothing to finish. -/
theorem State.finish_of_none {s : State} (h : s.frame = none) : s.finish = s := by
  simp [State.finish, State.runWhile, h]

/-- A phase that nothing still to come must precede needs no phase before it. -/
theorem State.upTo_of_ready {s : State} {c : FrameCtx} {p : Phase} (hs : s.frame = some c) (hp : p ∈ c.todo)
    (h : ∀ q ∈ c.todo, q.mustPrecede p = false) : s.upTo p = s := by
  have hpre : (c.todo.filter fun q => q.mustPrecede p) = [] := by
    simpa [List.filter_eq_nil_iff] using h
  have hrest : (c.todo.filter fun q => !q.mustPrecede p) = c.todo := by
    rw [List.filter_eq_self]
    intro q hq
    simp [h q hq]
  have hset : s.setFrame (some { c with todo := c.todo }) = s := by
    cases s; simp_all [State.setFrame]
  simp only [State.upTo, hs, hpre, hrest, List.nil_append, hset, List.length_nil, State.runWhile]
  split
  · rename_i h0
    rw [h0] at hp
    simp at hp
  · rename_i q rest hq
    have := h q (by rw [hq]; simp)
    simp [this]

/-- A due phase that is next in line is taken, and an event with nothing left is over. -/
theorem State.takeDue_of_ready {s : State} {c : FrameCtx} {p : Phase} {due : State → FrameCtx → Bool}
    (hs : s.frame = some c) (hp : p ∈ c.todo) (h : ∀ q ∈ c.todo, q.mustPrecede p = false) (hd : due s c = true) :
    s.takeDue p due = ((s.setFrame (some { c with todo := c.todo.erase p })).runPhase p).closeEvent := by
  simp [State.takeDue, State.upTo_of_ready hs hp h, hs, hd, hp]

/-- What a property of states must be kept by for every step to keep it: the event's record, every phase, a delivered
request, the timing unit's own record, the release of the lanes, the restart mark, and the queue of commands. -/
structure Kept (P : State → Prop) : Prop where
  frame : ∀ s f, P s → P (s.setFrame f)
  phase : ∀ s p, P s → P (s.runPhase p)
  deliver : ∀ s code r, P s → P (s.deliver code r)
  timing : ∀ s t, P s → P (s.setTiming t)
  release : ∀ s : State, P s → P s.releaseLanes
  restart : ∀ s : State, P s → P s.markRestart
  reset : ∀ s : State, P s → P s.pinReset
  pending : ∀ s q, P s → P (s.setPending q)

/-- Every command keeps what the operations keep. -/
theorem Kept.exec {P : State → Prop} (k : Kept P) {i : Instr} {s t : State} (hs : P s)
    (h : Machine.exec i s = .next t) : P t := by
  have fin : P s.finish := State.finish_keeps k.frame k.phase hs
  have ev : ∀ {u : State} kind entry inp phases sch, P u → P (u.event kind entry inp phases sch) :=
    fun kind entry inp phases sch hu => State.event_keeps k.frame k.phase kind entry inp phases sch hu
  have due : ∀ p d, P (s.takeDue p d) := fun p d => State.takeDue_keeps k.frame k.phase p d hs
  have search : ∀ u : State, P u → P u.enterSearch := fun u hu => k.restart _ (k.release _ (k.timing _ _ hu))
  cases i <;> simp only [Machine.exec] at h
  case pinReset =>
    simp only [execPinReset, Host.Outcome.next.injEq] at h
    subst h; exact k.reset _ hs
  case searchEdge =>
    simp only [execSearchEdge] at h
    split at h <;> cases h
    · exact k.timing _ _ fin
    · exact hs
  case confirmEdge =>
    simp only [execConfirmEdge, State.bareEvent] at h
    (repeat' split at h) <;> cases h
    · exact ev _ _ _ _ _ (k.timing _ _ fin)
    · exact k.timing _ _ fin
    · exact k.timing _ _ fin
    · exact hs
  case frameArrival =>
    simp only [execFrameArrival] at h
    split at h <;> cases h
    · exact ev _ _ _ _ _ (k.timing _ _ fin)
    · exact hs
  case earlyEdge =>
    simp only [execEarlyEdge, State.bareEvent] at h
    split at h <;> cases h
    · exact ev _ _ _ _ _ (k.restart _ (k.timing _ _ fin))
    · exact hs
  case fsyncMissing =>
    simp only [execFsyncMissing] at h
    split at h <;> cases h
    · exact ev _ _ _ _ _ (k.restart _ (k.timing _ _ fin))
    · exact hs
  case emittedFrame =>
    simp only [execEmittedFrame] at h
    split at h <;> cases h
    · exact ev _ _ _ _ _ (k.timing _ _ fin)
    · exact hs
  case holdoverReturn =>
    simp only [execHoldoverReturn] at h
    split at h <;> cases h
    · exact ev _ _ _ _ _ (k.timing _ _ fin)
    · exact hs
  case offPositionEdge =>
    simp only [execOffPositionEdge, State.bareEvent] at h
    split at h <;> cases h
    · exact ev _ _ _ _ _ (k.release _ (k.timing _ _ fin))
    · exact hs
  case holdoverExpired =>
    simp only [execHoldoverExpired, State.bareEvent] at h
    split at h <;> cases h
    · refine ev _ _ _ _ _ ?_
      split
      · exact k.timing _ _ (search _ fin)
      · exact search _ fin
    · exact hs
  case clockAbsent =>
    simp only [execClockAbsent, State.bareEvent] at h
    (repeat' split at h) <;> cases h
    · exact hs
    · exact k.timing _ _ fin
    · exact ev _ _ _ _ _ (search _ (k.timing _ _ fin))
  case bclkReturn =>
    simp only [execBclkReturn] at h
    split at h <;> cases h
    · exact k.timing _ _ fin
    · exact hs
  all_goals first
    | (cases h; exact due _ _)
    | (cases h; exact State.takeDue_keeps k.frame k.phase _ _ (due _ _))
    | (cases h; exact k.deliver _ _ _ hs)

/-- Every step keeps what the operations keep. -/
theorem Kept.step {P : State → Prop} (k : Kept P) {s t : State} (hs : P s) (h : Machine.step s = .next t) : P t := by
  simp only [Machine.step] at h
  split at h
  · cases h; exact State.finish_keeps k.frame k.phase hs
  · exact k.exec (k.pending _ _ hs) h

end Sys2Proof.Machine
end

