-- ==== Sys2Proof/Laws/Executor.lean ====
section
/-! SUPPORT. What the Executor and the places of the Reply Queue do with a request, said once. -/

namespace Sys2Proof.Machine

/-- A tag that is not live stands in no RESERVED place. -/
theorem ReplyQueue.reserved_of_not_live {r : ReplyQueue} {tag : Tag} (h : r.live tag = false) :
    ∀ p ∈ r.reserved, (p.tag == tag) = false := by
  simp only [ReplyQueue.live, Bool.or_eq_false_iff, List.any_eq_false] at h
  intro p hp
  simpa using h.1 p hp

/-- A place reserved for a tag that is not live becomes READY, and the others stay as they are (R47, R48). -/
theorem ReplyQueue.makeReady_reserve {r : ReplyQueue} {tag : Tag} {code : Code} (st : Status) (body : List Payload)
    (h : r.live tag = false) :
    ({ r with reserved := r.reserved ++ [⟨tag, code⟩] } : ReplyQueue).makeReady tag st body =
      { r with ready := r.ready ++ [⟨tag, st, body, false⟩] } := by
  have h' := ReplyQueue.reserved_of_not_live h
  have hn : ¬ ∃ p ∈ r.reserved, (p.tag == tag) = true := by
    rintro ⟨p, hp, ht⟩
    simp [h' p hp] at ht
  simp only [ReplyQueue.makeReady, ReplyQueue.mk.injEq, and_true]
  rw [List.eraseP_append_right _ (fun b hb => by simp [h' b hb])]
  simp

/-- With no natural end still to be posted there is nothing to post (R158). -/
theorem State.postEnds_of_posted {s : State} (h : s.endsPosted) : s.postEnds = s := by
  simp only [State.postEnds]
  split
  · rfl
  · rename_i c hc
    have hn : ∀ (t : State) (p : PlayerNo), t.postEnd c p = t := fun t p => by simp [State.postEnd, h c hc p]
    generalize Table.numbers 1 = l
    induction l with
    | nil => rfl
    | cons p l ih => rw [List.foldl_cons, hn, ih]

/-- A reply to a request taken at once. -/
theorem State.reply_reserve {s : State} {tag : Tag} {code : Code} (st : Status) (body : List Payload)
    (h : s.replies.live tag = false) : (s.reserved tag code).reply tag st body = s.answered tag st body := by
  simp only [State.reply, State.reserved, State.answered, State.setReplies]
  rw [ReplyQueue.makeReady_reserve st body h]

/-- R28, checks 4 to 7, for a request that is taken at once. -/
theorem State.admit_of_takesAtOnce {s : State} {tag : Tag} {code : Code} (h : s.takesAtOnce tag)
    (hc : 1 ≤ code.toNat ∧ code.toNat ≤ 32) : s.lateCheck tag code = none := by
  obtain ⟨⟨h0, hl, -, -, hq⟩, -⟩ := h
  have h0' : ¬ tag = 0#6 := h0
  simp [State.lateCheck, h0', hl, hq, hc, Config.commandQueueSize]

/-- A request that is taken at once: its place is reserved, its rule is asked, and what the rule answers is completed (R41,
R42, R47). -/
theorem State.deliver_of_takesAtOnce {s : State} {code : Code} {r : Req} (h : s.takesAtOnce r.tag)
    (hc : 1 ≤ code.toNat ∧ code.toNat ≤ 32) :
    s.deliver code r = (s.reserved r.tag code).complete r.tag
      (Queued.outcome ⟨r.tag, code, r.hdrReserved, r.body⟩ (s.reserved r.tag code)) := by
  have ha := State.admit_of_takesAtOnce h hc
  obtain ⟨⟨-, -, hf, he, hq⟩, hp⟩ := h
  have hs : ∀ q, (((s.reserved r.tag code).setCmdq q).postEnds).setCmdq [] = s.reserved r.tag code := fun q => by
    rw [State.postEnds_of_posted (s := (s.reserved r.tag code).setCmdq q) hp]
    simp [State.setCmdq, State.reserved, State.setReplies, ← hq]
  simp only [State.deliver, State.request, State.settle, ha, hf, if_false, State.runExecutor, State.setCmdq_cmdq, hq,
    List.nil_append, List.length_cons, List.length_nil, State.drain, State.setCmdq_executor,
    State.setReplies_executor, he]
  have h2 := hs [⟨r.tag, code, r.hdrReserved, r.body⟩]
  simp only [State.reserved] at h2 ⊢
  simp only [h2]

/-- A refusal of a request taken at once changes nothing but its own place (R42). -/
theorem State.complete_refused {s : State} {tag : Tag} {code : Code} (st : Status) (h : s.replies.live tag = false) :
    (s.reserved tag code).complete tag (.refused st) = s.answered tag st [] := State.reply_reserve st [] h

/-- A request that changes nothing, taken at once, is answered with DONE. -/
theorem State.complete_done_self {s : State} {tag : Tag} {code : Code} (body : List Payload)
    (h : s.replies.live tag = false) :
    (s.reserved tag code).complete tag (.done (s.reserved tag code) body) = s.answered tag .done body :=
  State.reply_reserve .done body h

/-- What holds before a taking and is kept by every taking holds after the Executor has worked off its queue (R41). -/
theorem State.drain_keeps {P : State → Prop}
    (h : ∀ s q rest, s.executor = .idle → s.cmdq = q :: rest → P s →
      P ((s.postEnds.setCmdq rest).complete q.tag (q.outcome (s.postEnds.setCmdq rest)))) :
    ∀ (n : Nat) (s : State), P s → P (s.drain n) := by
  intro n
  induction n with
  | zero => intro s hs; exact hs
  | succ n ih =>
    intro s hs
    simp only [State.drain]
    split
    · rename_i q rest he hq
      exact ih _ (h s q rest he hq hs)
    · exact hs

end Sys2Proof.Machine
end

