-- ==== Sys2Proof/Laws/Memory.lean ====
section
/-! SUPPORT. The sample memory: a read after a write, and the canonical form kept by every memory operation. -/

namespace Sys2Proof.Machine

/-- A word reads as it was last written. -/
theorem Memory.read_write_same (m : Memory) (a : Nat) (v : Sample) : (m.write a v).read a = some v := by
  induction m with
  | nil => simp [Memory.write, Memory.read]
  | cons p m ih =>
    obtain ⟨b, w⟩ := p
    simp only [Memory.write]
    split
    · simp [Memory.read]
    · split
      · simp [Memory.read]
      · rename_i _ h
        simp [Memory.read, h, ih]

/-- A write leaves every other word. -/
theorem Memory.read_write_other (m : Memory) (a b : Nat) (v : Sample) (h : b ≠ a) :
    (m.write a v).read b = m.read b := by
  induction m with
  | nil => simp [Memory.write, Memory.read, h]
  | cons p m ih =>
    obtain ⟨c, w⟩ := p
    simp only [Memory.write]
    split
    · simp [Memory.read, h]
    · split
      · rename_i _ hc
        subst hc
        simp [Memory.read, h]
      · by_cases hb : b = c <;> simp [Memory.read, hb, ih]

/-- A write at or above the bound keeps the addresses rising. -/
theorem Memory.risingFrom_write (m : Memory) (lo a : Nat) (v : Sample) (hlo : lo ≤ a) (ha : a < Config.memoryWords)
    (h : Memory.risingFrom lo m = true) : Memory.risingFrom lo (m.write a v) = true := by
  induction m generalizing lo with
  | nil => simp [Memory.write, Memory.risingFrom, hlo, ha]
  | cons p m ih =>
    obtain ⟨b, w⟩ := p
    simp only [Memory.risingFrom, Bool.and_eq_true, decide_eq_true_eq] at h
    simp only [Memory.write]
    split
    · simp only [Memory.risingFrom, Bool.and_eq_true, decide_eq_true_eq]
      exact ⟨⟨hlo, ha⟩, ⟨by omega, h.1.2⟩, h.2⟩
    · split
      · rename_i hab
        subst hab
        simp only [Memory.risingFrom, Bool.and_eq_true, decide_eq_true_eq]
        exact h
      · simp only [Memory.risingFrom, Bool.and_eq_true, decide_eq_true_eq]
        exact ⟨h.1, ih (b + 1) (by omega) h.2⟩

/-- A write keeps the canonical form. -/
theorem Memory.wf_write (m : Memory) (a : Nat) (v : Sample) (ha : a < Config.memoryWords) (h : m.wf = true) :
    (m.write a v).wf = true := Memory.risingFrom_write m 0 a v (Nat.zero_le a) ha h

/-- Every address a region names is one of the 8192 words. -/
theorem Region.address_lt (r : Region) (offset : Nat) : r.address offset < Config.memoryWords :=
  Nat.mod_lt _ (by decide)

/-- WRITE REGION's words keep the canonical form. -/
theorem Region.wf_writeAll (r : Region) (xs : List Sample) :
    ∀ (m : Memory) (offset : Nat), m.wf = true → (r.writeAll m offset xs).wf = true := by
  induction xs with
  | nil => intro m offset h; exact h
  | cons x xs ih =>
    intro m offset h
    exact ih _ _ (m.wf_write _ x (r.address_lt offset) h)

/-- After pin reset the memory is in canonical form. -/
theorem State.reset_memoryLaw : State.reset.memoryLaw := rfl

end Sys2Proof.Machine
end

