-- ==== Sys2Proof/Laws/Table.lean ====
section
/-! SUPPORT. Rows of a table: what a table built from a function holds, and what a replacement changes. -/

namespace Sys2Proof

/-- Row `i` of the table of `f` is `f i`. -/
@[simp] theorem Table.row_tab {k : Nat} {α : Type} (f : BitVec k → α) (i : BitVec k) : (Table.tab f).row i = f i := by
  simp only [Table.tab, Table.row, Vector.get_ofFn]

/-- A replaced row reads as what replaced it, and every other row as before. -/
theorem Table.row_put {k : Nat} {α : Type} (t : Table k α) (i j : BitVec k) (a : α) :
    (t.put i a).row j = if j = i then a else t.row j := by
  have e : ∀ u : Vector α (2 ^ k), u.get j.toFin = u[j.toNat]'j.isLt := fun _ => rfl
  simp only [Table.put, Table.row, e, Vector.getElem_set]
  by_cases h : j = i
  · simp [h]
  · have : ¬ i.toNat = j.toNat := fun e => h (BitVec.eq_of_toNat_eq e.symm)
    simp [h, this]

/-- Two tables with the same rows are the same table. -/
theorem Table.ext {k : Nat} {α : Type} {t u : Table k α} (h : ∀ i : BitVec k, t.row i = u.row i) : t = u := by
  apply Vector.ext
  intro i hi
  have e : ∀ v : Vector α (2 ^ k), Table.row v (BitVec.ofNat k i) = v[i] := fun v => by
    simp only [Table.row, Vector.get, BitVec.toFin_ofNat, Vector.getElem_toArray]
    congr 1
    simp [Fin.ofNat, Nat.mod_eq_of_lt hi]
  simpa [e] using h (BitVec.ofNat k i)

/-- The table built from a table's rows is that table. -/
theorem Table.tab_row {k : Nat} {α : Type} (t : Table k α) : Table.tab t.row = t :=
  Table.ext fun i => Table.row_tab t.row i

/-- Replacing a row by itself changes nothing. -/
@[simp] theorem Table.put_row {k : Nat} {α : Type} (t : Table k α) (i : BitVec k) : t.put i (t.row i) = t :=
  Table.ext fun j => by rw [Table.row_put]; split <;> simp_all

/-- Every number is listed. -/
@[simp] theorem Table.mem_numbers {k : Nat} (i : BitVec k) : i ∈ Table.numbers k := by
  simp only [Table.numbers, List.mem_map, List.mem_range]
  exact ⟨i.toNat, i.isLt, by simp⟩

/-- No number is listed twice. -/
theorem Table.nodup_numbers (k : Nat) : (Table.numbers k).Nodup := by
  simp only [Table.numbers]
  refine List.Nodup.map_on (fun a ha b hb h => ?_) List.nodup_range
  have := congrArg BitVec.toNat h
  simpa [Nat.mod_eq_of_lt (List.mem_range.mp ha), Nat.mod_eq_of_lt (List.mem_range.mp hb)] using this

/-- The rows in order. -/
theorem Table.toList_eq {k : Nat} {α : Type} (t : Table k α) : t.toList = (Table.numbers k).map t.row := by
  apply List.ext_getElem
  · simp [Table.numbers]
  · intro i h1 h2
    have hi : i < 2 ^ k := by simpa [Table.numbers] using h2
    simp [Table.numbers, Table.row, Vector.get, Fin.ofNat, Nat.mod_eq_of_lt hi]

/-- What is listed is what stands in some row. -/
theorem Table.mem_toList {k : Nat} {α : Type} {t : Table k α} {a : α} : a ∈ t.toList ↔ ∃ i : BitVec k, t.row i = a := by
  simp [Table.toList_eq]

end Sys2Proof
end

