-- ==== Sys2Proof/Laws/Phases.lean ====
section
/-! SUPPORT. The frame of each shared operation of a timing event: which fields of the state it may write. Each lemma says
that the state after it is the state before with those fields alone replaced, so that every other field is seen unchanged. -/

namespace Sys2Proof.Machine

/-- The moving counts, the countdowns, RAMP_DONE, and a skipped group step of the open event (R86, R87, R96). -/
theorem State.syncGroup_frame (old : Table 6 Active) (s : State) (g : GroupNo) :
    ∃ gs n f, s.syncGroup old g = { s with groups := gs, notices := n, frame := f } := by
  simp only [State.syncGroup]
  repeat' split
  all_goals exact ⟨_, _, _, rfl⟩

/-- The same of all eight groups. -/
theorem State.syncGroups_frame (s : State) (old : Table 6 Active) :
    ∃ gs n f, s.syncGroups old = { s with groups := gs, notices := n, frame := f } := by
  simp only [State.syncGroups]
  induction Table.numbers 3 generalizing s with
  | nil => exact ⟨_, _, _, rfl⟩
  | cons g l ih =>
    obtain ⟨a, b, c, e⟩ := State.syncGroup_frame old s g
    obtain ⟨x, y, z, e'⟩ := ih (s.syncGroup old g)
    exact ⟨x, y, z, by rw [List.foldl_cons, e', e]⟩

/-- A group's frame step: Active Table, group records, RAMP_DONE (R83, R87). -/
theorem State.groupStep_frame (s : State) (g : GroupNo) :
    ∃ a gs n, s.groupStep g = { s with active := a, groups := gs, notices := n } := by
  simp only [State.groupStep, State.expiry, State.putGroup, State.setActive, State.setGroups]
  repeat' split
  all_goals exact ⟨_, _, _, rfl⟩

/-- The application of a commit: both tables, the record, the groups, RAMP_DONE, the reply (R71). -/
theorem State.applyCommit_frame (s : State) (k : Commit) :
    ∃ gs n f, s.applyCommit k = { s with
      active := Table.tab fun i => (s.staged.row i).apply s.groups (s.active.row i)
      staged := Table.tab fun i => { s.staged.row i with dirty := false }
      commit := none, groups := gs, notices := n, frame := f
      replies := s.replies.makeReady k.tag .done
        (commitBody (s.staged.toList.countP (·.dirty)) s.now k.elapsed) } := by
  simp only [State.applyCommit, State.setActive, State.setStaged, State.setCommit]
  obtain ⟨gs, n, f, e⟩ := State.syncGroups_frame { s with
    active := Table.tab fun i => (s.staged.row i).apply s.groups (s.active.row i)
    staged := Table.tab fun i => { s.staged.row i with dirty := false }, commit := none } s.active
  rw [e]
  exact ⟨gs, n, f, rfl⟩

/-- The commit test: both tables, the record, the groups, RAMP_DONE, the reply (R71, R73). -/
theorem State.commitStep_frame (s : State) (arrival : Bool) :
    ∃ a st k gs n r f, s.commitStep arrival = { s with
      active := a, staged := st, commit := k, groups := gs, notices := n, replies := r, frame := f } := by
  simp only [State.commitStep]
  repeat' split
  · exact ⟨_, _, _, _, _, _, _, rfl⟩
  · rename_i k _ _
    obtain ⟨gs, n, f, e⟩ := s.applyCommit_frame k
    exact ⟨_, _, _, _, _, _, _, e⟩
  · exact ⟨_, _, _, _, _, _, _, rfl⟩
  · exact ⟨_, _, _, _, _, _, _, rfl⟩

/-- A player's frame step: its record, its region, the sample and the natural end it hands over (R153, R156). -/
theorem State.playerStep_frame (s : State) (p : PlayerNo) :
    ∃ ps rs f, s.playerStep p = { s with players := ps, regions := rs, frame := f } := by
  simp only [State.playerStep, State.naturalEnd, State.returnRegion]
  repeat' split
  all_goals exact ⟨_, _, _, rfl⟩

/-- The posting of a natural end: PLAYER_DONE, and the record that it has been posted (R156). -/
theorem State.postEnd_frame (s : State) (c : FrameCtx) (p : PlayerNo) :
    ∃ n f, s.postEnd c p = { s with notices := n, frame := f } := by
  simp only [State.postEnd]
  split <;> exact ⟨_, _, rfl⟩

/-- The postings before a request is taken: PLAYER_DONE, and the record that they have been posted (R158). -/
theorem State.postEnds_frame (s : State) : ∃ n f, s.postEnds = { s with notices := n, frame := f } := by
  simp only [State.postEnds]
  split
  · exact ⟨_, _, rfl⟩
  · rename_i c _
    generalize Table.numbers 1 = l
    have all : ∀ (l : List PlayerNo) (t : State),
        ∃ n f, l.foldl (fun t p => t.postEnd c p) t = { t with notices := n, frame := f } := by
      intro l
      induction l with
      | nil => exact fun t => ⟨_, _, rfl⟩
      | cons p l ih =>
        intro t
        obtain ⟨n, f, e⟩ := t.postEnd_frame c p
        obtain ⟨n', f', e'⟩ := ih (t.postEnd c p)
        exact ⟨n', f', by rw [List.foldl_cons, e', e]⟩
    exact all l s

/-- The beginning of an output frame: last emitted values, pins, the emitted values it hands over (R111). -/
theorem State.beginOutput_frame (s : State) :
    ∃ m p f, s.beginOutput = { s with mixer := m, pins := p, frame := f } := by
  simp only [State.beginOutput, State.setMixer, State.setPins, State.setFrame]
  exact ⟨_, _, _, rfl⟩

/-- The posting of a clip touches the notices alone (R108). -/
theorem State.postClip_frame (sums : Table 6 (Option Int)) (old : Table 6 (BitVec 16)) (s : State) (i : Slot) :
    ∃ n, s.postClip sums old i = { s with notices := n } := by
  simp only [State.postClip]
  repeat' split
  all_goals exact ⟨_, rfl⟩

/-- The postings of a frame's clips touch the notices alone (R108). -/
theorem State.postClips_frame (sums : Table 6 (Option Int)) (old : Table 6 (BitVec 16)) (l : List Slot) (s : State) :
    ∃ n, l.foldl (State.postClip sums old) s = { s with notices := n } := by
  induction l generalizing s with
  | nil => exact ⟨_, rfl⟩
  | cons i l ih =>
    obtain ⟨n, e⟩ := State.postClip_frame sums old s i
    obtain ⟨m, e'⟩ := ih (State.postClip sums old s i)
    exact ⟨m, by rw [List.foldl_cons, e', e]⟩

/-- The mixer's computation: clip counts, the results in flight, CLIP (R106 to R110). -/
theorem State.mix_frame (s : State) (c : FrameCtx) (h : s.timing.state.driving = true) :
    ∃ n, s.mix c = { s with
      mixer := { s.mixer with
        clips := Table.tab fun i => clipAfter ((s.sums c).row i) (s.mixer.clips.row i)
        flight := some (s.flightOf c (s.sums c)) }
      notices := n } := by
  simp only [State.mix, h, if_true, State.setMixer]
  obtain ⟨n, e⟩ := State.postClips_frame (s.sums c) s.mixer.clips (Table.numbers 6) { s with
    mixer := { s.mixer with
      clips := Table.tab fun i => clipAfter ((s.sums c).row i) (s.mixer.clips.row i)
      flight := some (s.flightOf c (s.sums c)) } }
  rw [e]
  exact ⟨n, rfl⟩

/-- A watch's evaluation: its record, WATCH_STATE, the trigger it hands over (R165 to R167). -/
theorem State.watchStep_frame (s : State) (c : FrameCtx) (w : WatchNo) :
    ∃ ws n f, s.watchStep c w = { s with watches := ws, notices := n, frame := f } := by
  simp only [State.watchStep]
  repeat' split
  all_goals exact ⟨_, _, _, rfl⟩

/-- A stop of the capture: its record, its region, CAPTURE_STATE (R146). -/
theorem State.stopCapture_frame (s : State) (reason : EndReason) :
    ∃ k rs n, s.stopCapture reason = { s with capture := k, regions := rs, notices := n } := by
  simp only [State.stopCapture]
  split <;> exact ⟨_, _, _, rfl⟩

/-- A store in FILLING: its record, the memory, the region and CAPTURE_STATE of a stop (R139). -/
theorem State.storeFilling_frame (s : State) (c : FrameCtx) (r : Region) (sub : Subject) :
    ∃ m k rs n, s.storeFilling c r sub = { s with memory := m, capture := k, regions := rs, notices := n } := by
  simp only [State.storeFilling]
  split
  · obtain ⟨k, rs, n, e⟩ := (s.store c r sub).stopCapture_frame .full
    exact ⟨_, k, rs, n, by rw [e]; rfl⟩
  · exact ⟨_, _, _, _, rfl⟩

/-- A store in POST: its record, the memory, the region and CAPTURE_STATE of a stop (R145). -/
theorem State.storePost_frame (s : State) (c : FrameCtx) (r : Region) (sub : Subject) :
    ∃ m k rs n, s.storePost c r sub = { s with memory := m, capture := k, regions := rs, notices := n } := by
  simp only [State.storePost]
  split
  · obtain ⟨k, rs, n, e⟩ := ((s.store c r sub).setCapture { (s.store c r sub).capture with
      postRemaining := (s.store c r sub).capture.postRemaining - 1 }).stopCapture_frame .postDone
    exact ⟨_, k, rs, n, by rw [e]; rfl⟩
  · exact ⟨_, _, _, _, rfl⟩

/-- The capture's frame step: its record, its region, the memory, CAPTURE_STATE (R138 to R148). -/
theorem State.captureStep_frame (s : State) (c : FrameCtx) :
    ∃ m k rs n, s.captureStep c = { s with memory := m, capture := k, regions := rs, notices := n } := by
  simp only [State.captureStep]
  split
  · rename_i r sub _ _
    split
    · exact ⟨_, _, _, _, rfl⟩
    · split
      · obtain ⟨m, k, rs, n, e⟩ := State.storeFilling_frame
          (s.setCapture { s.capture with state := .filling, triggerOffset := some s.capture.writeOffset }) c r sub
        split
        · exact ⟨m, k, rs, _, by rw [e]; rfl⟩
        · exact ⟨m, k, rs, n, by rw [e]; rfl⟩
      · exact ⟨_, _, _, _, rfl⟩
    · split
      · split
        · obtain ⟨k, rs, n, e⟩ := (s.setCapture
            { s.capture with triggerOffset := some s.capture.writeOffset }).stopCapture_frame .postDone
          exact ⟨_, k, rs, n, by rw [e]; rfl⟩
        · obtain ⟨m, k, rs, n, e⟩ := State.storePost_frame (s.setCapture
            { s.capture with
              triggerOffset := some s.capture.writeOffset, state := .post
              postRemaining := s.capture.postCount }) c r sub
          split
          · exact ⟨m, k, rs, _, by rw [e]; rfl⟩
          · exact ⟨m, k, rs, n, by rw [e]; rfl⟩
      · exact s.storeFilling_frame c r sub
    · exact s.storePost_frame c r sub
  · exact ⟨_, _, _, _, rfl⟩

/-- An abandonment: the parser and INBOUND_ABANDONED (R30). -/
theorem State.abandon_frame (s : State) (reason : Reason) (frame : FrameNo) :
    ∃ p n, s.abandon reason frame = { s with parser := p, notices := n } := by
  simp only [State.abandon]
  split <;> exact ⟨_, _, rfl⟩

/-- The parser at a state entry: the parser and INBOUND_ABANDONED (R29). -/
theorem State.parserEntry_frame (s : State) (e : Option Entry) :
    ∃ p n, s.parserEntry e = { s with parser := p, notices := n } := by
  simp only [State.parserEntry, State.parserLost]
  split
  · exact ⟨_, _, rfl⟩
  · rename_i x
    obtain ⟨p, n, h⟩ := s.abandon_frame .lockLost x.frame
    exact ⟨_, n, by rw [h]; rfl⟩

/-- The posting of a state entry touches the notices alone (R14). -/
theorem State.postEntry_frame (s : State) (e : Option Entry) : ∃ n, s.postEntry e = { s with notices := n } := by
  simp only [State.postEntry]
  split <;> exact ⟨_, rfl⟩

/-- A word of a message in progress: the composer, the reply it frees, the fence (R31, R44). -/
theorem State.sendWord_frame (s : State) (m : OutMessage) (i : Nat) :
    ∃ k r e, (s.sendWord m i).1 = { s with composer := k, replies := r, executor := e } := by
  simp only [State.sendWord, State.freePlace]
  repeat' split
  all_goals exact ⟨_, _, _, rfl⟩

/-- The composer's next word: the composer, the reply it frees, the notice it takes, the fence (R31, R44, R53). -/
theorem State.nextWord_frame (s : State) :
    ∃ k r n e, s.nextWord.1 = { s with composer := k, replies := r, notices := n, executor := e } := by
  simp only [State.nextWord]
  split
  · obtain ⟨k, r, e, h⟩ := s.sendWord_frame _ _
    exact ⟨k, r, _, e, h⟩
  · split
    · split
      · obtain ⟨k, r, e, h⟩ := State.sendWord_frame _ _ _
        exact ⟨k, r, _, e, h⟩
      · exact ⟨_, _, _, _, rfl⟩
    · split
      · obtain ⟨k, r, e, h⟩ := State.sendWord_frame _ _ _
        exact ⟨k, r, _, e, h⟩
      · exact ⟨_, _, _, _, rfl⟩
    · exact ⟨_, _, _, _, rfl⟩

/-- The word in the management outbound slot: what the composer's word writes, and the pin (R13, R31). -/
theorem State.emitWord_frame (s : State) :
    ∃ k r n e p, s.emitWord = { s with composer := k, replies := r, notices := n, executor := e, pins := p } := by
  simp only [State.emitWord]
  split
  · obtain ⟨k, r, n, e, h⟩ := s.nextWord_frame
    exact ⟨k, r, n, e, _, by rw [h]; rfl⟩
  all_goals exact ⟨_, _, _, _, _, rfl⟩

/-- The restart mark touches the composer alone (R32). -/
theorem State.markRestart_frame (s : State) : ∃ k, s.markRestart = { s with composer := k } := by
  simp only [State.markRestart]
  split <;> exact ⟨_, rfl⟩

end Sys2Proof.Machine
end

