-- ==== Sys2Proof/Laws/Requests.lean ====
section
/-! SUPPORT. What the rules of the requests do to the state, said once: a property that the updates of `RuleUpdates` keep is
kept by every request's rule. With it, what no request touches. -/

namespace Sys2Proof.Machine

/-- What a property must be kept by for every request's rule to keep it. -/
structure RuleUpdates (P : State → Prop) : Prop where
  staged : ∀ s v, P s → P (s.setStaged v)
  active : ∀ s v, P s → P (s.setActive v)
  commit : ∀ s v, P s → P (s.setCommit v)
  groups : ∀ s v, P s → P (s.setGroups v)
  replies : ∀ s v, P s → P (s.setReplies v)
  notices : ∀ s v, P s → P (s.setNotices v)
  mixer : ∀ (s : State) v, v.flight = s.mixer.flight → P s → P (s.setMixer v)
  regions : ∀ s v, P s → P (s.setRegions v)
  capture : ∀ s v, P s → P (s.setCapture v)
  players : ∀ s v, P s → P (s.setPlayers v)
  watches : ∀ s v, P s → P (s.setWatches v)
  skip : ∀ s g, P s → P (s.skipGroup g)
  counters : ∀ s : State, P s → P s.clearCounters
  lanes : ∀ (s : State) ins outs, P s → P (s.setTiming { s.timing with inLanes := ins, outLanes := outs })

/-- The state that a taking leaves, where it leaves one, has a property. -/
def Taken.Leaves (P : State → Prop) : Taken → Prop
  | .done t _ | .deferred t => P t
  | .refused _ | .fenced _ _ => True

/-- A rule behind the common checks (R42). -/
theorem checked_leaves {P : State → Prop} {α : Type} {fields : Option α} {act : α → Taken}
    (h : ∀ x, fields = some x → (act x).Leaves P) : (checked fields act).Leaves P := by
  cases fields with
  | none => trivial
  | some x => exact h x rfl

/-- Bringing one group's count up to date (R86, R87, R96). -/
theorem RuleUpdates.sync {P : State → Prop} (k : RuleUpdates P) {s : State} (old : Table 6 Active) (g : GroupNo)
    (h : P s) : P (s.syncGroup old g) := by
  simp only [State.syncGroup]
  repeat' split
  · exact h
  · exact k.skip _ _ (k.groups _ _ h)
  · exact k.notices _ _ (k.groups _ _ h)
  · exact k.groups _ _ h
  · exact k.groups _ _ h

/-- Bringing the counts of all eight groups up to date (R86). -/
theorem RuleUpdates.syncs {P : State → Prop} (k : RuleUpdates P) {s : State} (old : Table 6 Active) (h : P s) :
    P (s.syncGroups old) := by
  simp only [State.syncGroups]
  induction Table.numbers 3 generalizing s with
  | nil => exact h
  | cons g l ih => exact ih (k.sync old g h)

/-- The end of a pending commit without an application (R73, R75). -/
theorem RuleUpdates.endCommit {P : State → Prop} (k : RuleUpdates P) {s : State} (c : Commit) (st : Status) (h : P s) :
    P (s.endCommit c st) := k.replies _ _ (k.commit _ _ h)

/-- The stop of a capture (R146). -/
theorem RuleUpdates.stop {P : State → Prop} (k : RuleUpdates P) {s : State} (reason : EndReason) (h : P s) :
    P (s.stopCapture reason) := by
  simp only [State.stopCapture]
  split
  · exact k.notices _ _ (k.regions _ _ (k.capture _ _ h))
  · exact k.notices _ _ (k.capture _ _ h)

/-- The routing part of RESET (R177). -/
theorem RuleUpdates.routing {P : State → Prop} (k : RuleUpdates P) {s : State} (h : P s) : P s.resetRouting := by
  simp only [State.resetRouting]
  have clear : ∀ u, P u → P u.clearRoutes.clearMixer := fun u hu =>
    k.mixer _ _ rfl (k.groups _ _ (k.active _ _ (k.staged _ _ hu)))
  split
  · exact clear _ h
  · exact clear _ (k.endCommit _ _ h)

/-- Every request's rule keeps what the updates keep, and WRITE REGION, code 21, what its writes keep. -/
theorem RuleUpdates.take {P : State → Prop} (k : RuleUpdates P) (q : Queued) {s : State}
    (write : q.code.toNat = 21 → ∀ (s : State) (r : Region) offset xs, P s →
      P (s.setMemory (r.writeAll s.memory offset xs))) (h : P s) : (q.take s).Leaves P := by
  simp only [Queued.take]
  split
  case h_33 => trivial
  all_goals refine checked_leaves ?_; intro x _
  · exact h
  · simp only [Taken.Leaves]; split
    · exact k.counters _ h
    · exact h
  · cases x
    · exact k.routing h
    · trivial
  · exact k.notices _ _ h
  · dsimp only; repeat' split
    all_goals trivial
  · split <;> trivial
  · dsimp only; split
    · exact k.lanes _ _ _ h
    · trivial
  · repeat' split
    all_goals first | trivial | exact k.staged _ _ h
  · dsimp only; repeat' split
    all_goals first | trivial | exact k.staged _ _ h
  · split
    · trivial
    · exact k.staged _ _ h
  · dsimp only; split <;> exact h
  · dsimp only; split
    · trivial
    · exact k.commit _ _ h
  · split
    · trivial
    · exact k.endCommit _ _ h
  · dsimp only; split
    · trivial
    · exact k.syncs _ (k.active _ _ h)
  · simp only [State.rateGroup, Taken.Leaves]; repeat' split
    · exact k.groups _ _ h
    · exact k.active _ _ (k.groups _ _ h)
    · exact k.skip _ _ (k.groups _ _ h)
  · exact k.syncs _ (k.active _ _ (k.groups _ _ h))
  · exact h
  · simp only [Taken.Leaves]; split
    · exact k.notices _ _ (k.mixer _ _ rfl h)
    · exact h
  · dsimp only; repeat' split
    all_goals first | trivial | exact k.regions _ _ h
  · repeat' split
    all_goals first | trivial | exact k.regions _ _ h
  · dsimp only; repeat' split
    all_goals first | trivial | exact k.regions _ _ (write (by assumption) _ _ _ _ h)
  · dsimp only; repeat' split
    all_goals trivial
  · exact h
  · repeat' split
    all_goals first | trivial | exact k.capture _ _ (k.regions _ _ h)
  · dsimp only; split
    · trivial
    · exact k.stop _ h
  · exact h
  · dsimp only; repeat' split
    all_goals first | trivial | exact k.players _ _ (k.regions _ _ h)
  · simp only [State.endPlayer, State.returnRegion, Taken.Leaves]; repeat' split
    · exact k.players _ _ h
    · exact k.regions _ _ (k.players _ _ h)
    · exact h
  · exact h
  · dsimp only; split
    · trivial
    · exact k.watches _ _ h
  · dsimp only; split
    · trivial
    · exact k.watches _ _ h
  · exact h

/-- Every outcome of a taking leaves what its rule leaves (R42). -/
theorem RuleUpdates.outcome {P : State → Prop} (k : RuleUpdates P) (q : Queued) {s : State}
    (write : q.code.toNat = 21 → ∀ (s : State) (r : Region) offset xs, P s →
      P (s.setMemory (r.writeAll s.memory offset xs))) (h : P s) : (q.outcome s).Leaves P := by
  simp only [Queued.outcome]
  split
  · trivial
  · exact k.take q write h

/-- What a property must be kept by for every delivered request to keep it. -/
structure RequestUpdates (P : State → Prop) : Prop extends RuleUpdates P where
  memory : ∀ (s : State) a v, P s → P (s.setMemory (s.memory.write a v))
  executor : ∀ s v, P s → P (s.setExecutor v)
  cmdq : ∀ s v, P s → P (s.setCmdq v)
  parser : ∀ s v, P s → P (s.setParser v)
  record : ∀ (s : State) (f : FrameCtx → FrameCtx), (∀ c, (f c).todo = c.todo) → P s → P (s.setFrame (s.frame.map f))

/-- The posting of a natural end (R156). -/
theorem RequestUpdates.postEnd {P : State → Prop} (k : RequestUpdates P) (c : FrameCtx) (p : PlayerNo) {s : State}
    (h : P s) : P (s.postEnd c p) := by
  simp only [State.postEnd]
  split
  · exact h
  · exact k.notices _ _ (k.record _ _ (fun _ => rfl) h)

/-- The posting of the natural ends before a request is taken (R158). -/
theorem RequestUpdates.postEnds {P : State → Prop} (k : RequestUpdates P) {s : State} (h : P s) : P s.postEnds := by
  simp only [State.postEnds]
  split
  · exact h
  · rename_i c _
    have all : ∀ (l : List PlayerNo) (t : State), P t → P (l.foldl (fun t p => t.postEnd c p) t) := by
      intro l
      induction l with
      | nil => exact fun _ ht => ht
      | cons p l ih => exact fun t ht => ih _ (k.postEnd c p ht)
    exact all _ _ h

/-- The words of a WRITE REGION, one after another (R126). -/
theorem RequestUpdates.writeAll {P : State → Prop} (k : RequestUpdates P) (r : Region) (xs : List Sample) :
    ∀ (offset : Nat) (s : State), P s → P (s.setMemory (r.writeAll s.memory offset xs)) := by
  induction xs with
  | nil => intro offset s h; exact h
  | cons x xs ih => intro offset s h; exact ih (offset + 1) (s.setMemory _) (k.memory s (r.address offset) x h)

/-- A taking and its completion (R42 to R44). -/
theorem RequestUpdates.complete {P : State → Prop} (k : RequestUpdates P) (q : Queued) {s : State} (h : P s) :
    P (s.complete q.tag (q.outcome s)) := by
  have hl := k.outcome q (fun _ s r offset xs => k.writeAll r xs offset s) h
  cases ho : q.outcome s <;> rw [ho] at hl
  · exact k.replies _ _ h
  · exact k.replies _ _ hl
  · exact hl
  · exact k.executor _ _ (k.replies _ _ h)

/-- The Executor working off its queue (R41). -/
theorem RequestUpdates.drain {P : State → Prop} (k : RequestUpdates P) (n : Nat) {s : State} (h : P s) :
    P (s.drain n) :=
  State.drain_keeps (fun _ q _ _ _ hs => k.complete q (k.cmdq _ _ (k.postEnds hs))) n s h

/-- The outcome of the trailer checks (R28, R47). -/
theorem RequestUpdates.settle {P : State → Prop} (k : RequestUpdates P) (tag : Tag) (code : Code) (hdrReserved : Bool)
    (body : List Payload) (verdict : Option Status) {s : State} (h : P s) :
    P (s.settle tag code hdrReserved body verdict) := by
  simp only [State.settle]
  repeat' split
  · exact k.parser _ _ h
  · exact k.replies _ _ h
  · exact k.drain _ (k.cmdq _ _ (k.replies _ _ h))

/-- A delivered request. -/
theorem RequestUpdates.deliver {P : State → Prop} (k : RequestUpdates P) (code : Code) (r : Req) {s : State} (h : P s) :
    P (s.deliver code r) := k.settle _ _ _ _ _ h

/-- What a property must be kept by for every part of a timing event to keep it. -/
structure PhaseUpdates (P : State → Prop) : Prop extends RequestUpdates P where
  timing : ∀ (s : State) v, v.frameNo = s.timing.frameNo → P s → P (s.setTiming v)
  link : ∀ s v, P s → P (s.setLink v)
  composer : ∀ s v, P s → P (s.setComposer v)
  mixing : ∀ s v, P s → P (s.setMixer v)
  pins : ∀ s v, P s → P (s.setPins v)

/-- An abandonment (R30). -/
theorem PhaseUpdates.abandon {P : State → Prop} (k : PhaseUpdates P) (reason : Reason) (frame : FrameNo) {s : State}
    (h : P s) : P (s.abandon reason frame) := by
  simp only [State.abandon]
  split
  · exact h
  · exact k.notices _ _ (k.parser _ _ h)

/-- The restart mark (R32). -/
theorem PhaseUpdates.restart {P : State → Prop} (k : PhaseUpdates P) {s : State} (h : P s) : P s.markRestart := by
  simp only [State.markRestart]
  split
  · exact k.composer _ _ h
  · exact h

/-- A group's frame step (R83, R87). -/
theorem PhaseUpdates.groupStep {P : State → Prop} (k : PhaseUpdates P) (g : GroupNo) {s : State} (h : P s) :
    P (s.groupStep g) := by
  have expiry : P (s.expiry g) := by
    simp only [State.expiry, State.putGroup]
    generalize mapGroup g _ _ = a
    split
    · exact k.notices _ _ (k.groups _ _ (k.active _ _ h))
    · exact k.groups _ _ (k.active _ _ h)
  simp only [State.groupStep]
  repeat' split
  · exact h
  · exact expiry
  · exact k.groups _ _ h

/-- The beginning of an output frame (R110, R111). -/
theorem PhaseUpdates.beginOutput {P : State → Prop} (k : PhaseUpdates P) {s : State} (h : P s) : P s.beginOutput := by
  simp only [State.beginOutput]
  have all : ∀ m p (f : FrameCtx → FrameCtx), (∀ c, (f c).todo = c.todo) →
      P (((s.setMixer m).setPins p).setFrame (s.frame.map f)) := fun m p f hf =>
    k.record _ f hf (k.pins _ p (k.mixing s m h))
  refine all _ _ _ ?_
  intro c
  rfl

/-- The commit test (R70 to R73). -/
theorem PhaseUpdates.commitStep {P : State → Prop} (k : PhaseUpdates P) (arrival : Bool) {s : State} (h : P s) :
    P (s.commitStep arrival) := by
  simp only [State.commitStep, State.applyCommit]
  repeat' split
  · exact h
  · exact k.replies _ _ (k.syncs _ (k.commit _ _ (k.staged _ _ (k.active _ _ h))))
  · exact k.endCommit _ _ h
  · exact k.commit _ _ h

/-- A player's frame step (R153 to R156). -/
theorem PhaseUpdates.playerStep {P : State → Prop} (k : PhaseUpdates P) (p : PlayerNo) {s : State} (h : P s) :
    P (s.playerStep p) := by
  have give : ∀ x, P (s.give p x) := fun x => k.record _ _ (fun _ => rfl) h
  simp only [State.playerStep, State.naturalEnd, State.returnRegion]
  repeat' split
  · exact h
  · exact k.record _ _ (fun _ => rfl) (k.players _ _ (give _))
  · exact k.record _ _ (fun _ => rfl) (k.regions _ _ (k.players _ _ (give _)))
  · exact k.players _ _ (give _)
  · exact k.players _ _ (give _)

/-- The mixer's computation (R106 to R110). -/
theorem PhaseUpdates.mix {P : State → Prop} (k : PhaseUpdates P) (c : FrameCtx) {s : State} (h : P s) : P (s.mix c) := by
  have post : ∀ (sums : Table 6 (Option Int)) (old : Table 6 (BitVec 16)) (l : List Slot) (u : State), P u →
      P (l.foldl (State.postClip sums old) u) := by
    intro sums old l
    induction l with
    | nil => intro u hu; exact hu
    | cons i l ih =>
      intro u hu
      refine ih _ ?_
      simp only [State.postClip]
      repeat' split
      · exact hu
      · exact k.notices _ _ hu
      · exact hu
  simp only [State.mix]
  split
  · exact post _ _ _ _ (k.mixing _ _ h)
  · exact h

/-- A watch's evaluation (R163 to R167). -/
theorem PhaseUpdates.watchStep {P : State → Prop} (k : PhaseUpdates P) (c : FrameCtx) (w : WatchNo) {s : State}
    (h : P s) : P (s.watchStep c w) := by
  simp only [State.watchStep]
  repeat' split
  · exact h
  · exact k.record _ _ (fun _ => rfl) (k.notices _ _ (k.watches _ _ h))
  · exact k.notices _ _ (k.watches _ _ h)
  · exact k.watches _ _ h

/-- The capture's frame step (R138 to R148). -/
theorem PhaseUpdates.captureStep {P : State → Prop} (k : PhaseUpdates P) (c : FrameCtx) {s : State} (h : P s) :
    P (s.captureStep c) := by
  have store : ∀ (u : State) r sub, P u → P (u.store c r sub) := fun u r sub hu =>
    k.capture _ _ (k.memory _ _ _ hu)
  have filling : ∀ (u : State) r sub, P u → P (u.storeFilling c r sub) := by
    intro u r sub hu
    simp only [State.storeFilling]
    split
    · exact k.stop _ (store _ _ _ hu)
    · exact store _ _ _ hu
  have post : ∀ (u : State) r sub, P u → P (u.storePost c r sub) := by
    intro u r sub hu
    simp only [State.storePost]
    split
    · exact k.stop _ (k.capture _ _ (store _ _ _ hu))
    · exact k.capture _ _ (store _ _ _ hu)
  simp only [State.captureStep]
  repeat' split
  · exact h
  · exact k.notices _ _ (filling _ _ _ (k.capture _ _ h))
  · exact filling _ _ _ (k.capture _ _ h)
  · exact h
  · exact k.stop _ (k.capture _ _ h)
  · exact k.notices _ _ (post _ _ _ (k.capture _ _ h))
  · exact post _ _ _ (k.capture _ _ h)
  · exact filling _ _ _ h
  · exact post _ _ _ h
  · exact h

/-- The parser's word (R22 to R28, R33 to R35). -/
theorem PhaseUpdates.parserWord {P : State → Prop} (k : PhaseUpdates P) (w : LinkBits) {s : State} (h : P s) :
    P (s.parserWord w) := by
  have gap : ∀ u : State, P u → P u.takeGap := by
    intro u hu
    simp only [State.takeGap]
    repeat' split
    · exact hu
    · exact k.abandon _ _ hu
    · exact k.parser _ _ hu
  have stray : ∀ u : State, P u → P u.countStray := fun u hu => k.parser _ _ hu
  have header : ∀ (u : State) x, P u → P (u.takeHeader x) := by
    intro u x hu
    simp only [State.takeHeader]
    split
    · exact k.parser _ _ hu
    · exact stray _ hu
  have trailer : ∀ (u : State) m e c, P u → P (u.takeTrailer m e c) := by
    intro u m e c hu
    simp only [State.takeTrailer]
    repeat' split
    · exact k.settle _ _ _ _ _ (k.parser _ _ hu)
    · exact k.settle _ _ _ _ _ (k.parser _ _ hu)
    · exact k.settle _ _ _ _ _ (k.parser _ _ (k.parser _ _ hu))
    · exact k.settle _ _ _ _ _ (k.parser _ _ hu)
  have resync : P s.resync :=
    k.notices _ _ (k.composer _ _ (k.replies _ _ (k.commit _ _ (k.executor _ _ (k.cmdq _ _ (k.parser _ _ h))))))
  simp only [State.parserWord]
  repeat' split
  · exact resync
  · exact gap _ (k.parser _ _ h)
  · exact gap _ (k.parser _ _ h)
  · exact header _ _ (k.abandon _ _ (k.parser _ _ h))
  · exact stray _ (k.parser _ _ h)
  · exact k.parser _ _ (k.parser _ _ h)
  · exact k.abandon _ _ (k.parser _ _ h)
  · exact stray _ (k.parser _ _ h)
  · exact trailer _ _ _ _ (k.parser _ _ h)

/-- The word in the management outbound slot (R31, R44, R53). -/
theorem PhaseUpdates.emitWord {P : State → Prop} (k : PhaseUpdates P) {s : State} (h : P s) : P s.emitWord := by
  have send : ∀ (u : State) m i, P u → P (u.sendWord m i).1 := by
    intro u m i hu
    simp only [State.sendWord, State.freePlace]
    repeat' split
    all_goals first
      | exact k.composer _ _ hu
      | exact k.replies _ _ (k.composer _ _ hu)
      | exact k.executor _ _ (k.replies _ _ (k.composer _ _ hu))
  have next : P s.nextWord.1 := by
    simp only [State.nextWord]
    repeat' split
    all_goals first
      | exact h
      | exact send _ _ _ h
      | exact send _ _ _ (k.composer _ _ h)
      | exact send _ _ _ (k.notices _ _ (k.composer _ _ h))
  simp only [State.emitWord]
  split
  · exact k.pins _ _ next
  · exact k.pins _ _ h
  all_goals exact h

/-- The effect of a fenced request (R17, R37, R179). -/
theorem PhaseUpdates.takeEffect {P : State → Prop} (k : PhaseUpdates P) {s : State} (h : P s) : P s.takeEffect := by
  have entry : ∀ (u : State) e, P u → P (u.setEntry e) := fun u e hu => k.record _ _ (fun _ => rfl) hu
  simp only [State.takeEffect]
  repeat' split
  · simp only [State.moveLink]
    exact k.executor _ _ (k.parser _ _ (k.abandon _ _ (k.link _ _ (k.pins _ _ (entry _ _ h)))))
  · simp only [State.changeFormat]
    split
    · exact k.executor _ _ (k.timing _ _ rfl (entry _ _ h))
    · exact entry _ _ (k.restart (k.mixing _ _ (k.pins _ _ (k.timing _ _ rfl
        (k.executor _ _ (k.timing _ _ rfl (entry _ _ h)))))))
  · simp only [State.fullReset]
    exact k.mixing _ _ (k.groups _ _ (k.active _ _ (k.staged _ _ (k.watches _ _ (k.timing _ _ rfl (k.parser _ _
      (k.composer _ _ (k.notices _ _ (k.commit _ _ (k.executor _ _ (k.replies _ _ (k.cmdq _ _ (k.regions _ _
        (k.players _ _ (k.capture _ _ (entry _ _ h))))))))))))))))
  · exact h

/-- Every part of a timing event keeps what the updates keep. -/
theorem PhaseUpdates.phase {P : State → Prop} (k : PhaseUpdates P) (s : State) (p : Phase) (h : P s) :
    P (s.runPhase p) := by
  have entryNotice : ∀ e, P (s.postEntry e) := by
    intro e
    simp only [State.postEntry]
    split
    · exact h
    · exact k.notices _ _ h
  have entryParser : ∀ e, P (s.parserEntry e) := by
    intro e
    simp only [State.parserEntry, State.parserLost]
    split
    · exact h
    · exact k.parser _ _ (k.abandon _ _ h)
  simp only [State.runPhase]
  split
  · exact h
  · split
    · exact entryNotice _
    · exact entryNotice _
    · exact entryParser _
    · exact entryParser _
    · exact k.groupStep _ h
    · exact k.commitStep _ h
    · exact k.playerStep _ h
    · exact k.postEnd _ _ h
    · exact k.beginOutput h
    · exact k.mix _ h
    · exact k.watchStep _ _ h
    · exact k.captureStep _ h
    · exact k.parserWord _ h
    · exact k.takeEffect h
    · exact k.drain _ h
    · exact k.emitWord h

/-- Every part of a timing event keeps the frame number (R12). -/
theorem State.now_updates (f : FrameNo) : PhaseUpdates fun s => s.now = f where
  staged _ _ h := h
  active _ _ h := h
  commit _ _ h := h
  groups _ _ h := h
  replies _ _ h := h
  notices _ _ h := h
  mixer _ _ _ h := h
  regions _ _ h := h
  capture _ _ h := h
  players _ _ h := h
  watches _ _ h := h
  skip _ _ h := h
  counters _ h := h
  lanes _ _ _ h := h
  memory _ _ _ h := h
  executor _ _ h := h
  cmdq _ _ h := h
  parser _ _ h := h
  timing _ _ e h := e.trans h
  link _ _ h := h
  composer _ _ h := h
  mixing _ _ h := h
  pins _ _ h := h
  record _ _ _ h := h

/-- No part of a timing event adds to the phases still to come. -/
theorem State.openPhases_updates (n : Nat) : PhaseUpdates fun s => s.openPhases ≤ n where
  staged _ _ h := h
  active _ _ h := h
  commit _ _ h := h
  groups _ _ h := h
  replies _ _ h := h
  notices _ _ h := h
  mixer _ _ _ h := h
  regions _ _ h := h
  capture _ _ h := h
  players _ _ h := h
  watches _ _ h := h
  skip s g h := by
    refine le_trans ?_ h
    simp only [State.openPhases, State.skipGroup, State.setFrame]
    cases s.frame with
    | none => exact le_rfl
    | some c => exact List.length_filter_le _ _
  counters _ h := h
  lanes _ _ _ h := h
  memory _ _ _ h := h
  executor _ _ h := h
  cmdq _ _ h := h
  parser _ _ h := h
  timing _ _ _ h := h
  link _ _ h := h
  composer _ _ h := h
  mixing _ _ h := h
  pins _ _ h := h
  record s f e h := by
    refine le_trans (le_of_eq ?_) h
    simp only [State.openPhases, State.setFrame]
    cases s.frame with
    | none => rfl
    | some c => simp only [Option.map_some, e]

/-- Phases taken to the last leave no event open. -/
theorem State.runWhile_closes (go : List Phase → Bool) (hg : ∀ p rest, go (p :: rest) = true) :
    ∀ (n : Nat) (s : State), s.openPhases < n → (s.runWhile go n).frame = none := by
  intro n
  induction n with
  | zero => intro s h; omega
  | succ n ih =>
    intro s h
    simp only [State.runWhile]
    split
    · assumption
    · rename_i c hc
      split
      · rfl
      · rename_i p rest hp
        simp only [hg, if_true]
        refine ih _ ?_
        have := (State.openPhases_updates rest.length).phase (s.setFrame (some { c with todo := rest })) p le_rfl
        simp only [State.openPhases, hc, hp, List.length_cons] at h
        omega

/-- After what was open has been taken nothing is open. -/
theorem State.finish_frame (s : State) : s.finish.frame = none :=
  State.runWhile_closes _ (fun _ _ => rfl) _ s (Nat.lt_succ_self _)

/-- An event of which nothing is kept open is over once it has been taken. -/
theorem State.event_frame (s : State) (kind : FrameKind) (entry : Option Entry) (inp : FrameIn) (phases : List Phase)
    (sch : Sched) (h : sch.keep = 0) : (s.event kind entry inp phases sch).frame = none := by
  refine State.runWhile_closes _ (fun p rest => by simp [h]) _ _ ?_
  simp only [State.openPhases, State.setFrame_frame, (sch.order_perm phases).length_eq]
  omega

/-- What was open, and an event whole, keep the frame number (R12). -/
theorem State.now_finish (s : State) : s.finish.now = s.now :=
  State.finish_keeps (P := fun u => u.now = s.now) (fun _ _ h => h) (fun u p h => (State.now_updates _).phase u p h) rfl

/-- An event keeps the frame number that stands when it is taken (R12). -/
theorem State.now_event (s : State) (kind : FrameKind) (entry : Option Entry) (inp : FrameIn) (phases : List Phase)
    (sch : Sched) : (s.event kind entry inp phases sch).now = s.now :=
  State.event_keeps (P := fun u => u.now = s.now) (fun _ _ h => h) (fun u p h => (State.now_updates _).phase u p h)
    kind entry inp phases sch rfl

end Sys2Proof.Machine
end

