-- ==== Sys2Proof/WellFormed.lean ====
section
/-! DEFINITION. Which commands are well formed: the operands that an event of the part can have. `exec` is total and
gives every term a meaning; these checks name the terms that stand for something a link can do. -/

namespace Sys2Proof

/-- The parser never hands over more than 48 body words (R25). -/
def Req.wellFormed (r : Req) : Bool := decide (r.body.length ≤ Config.bodyWords)

/-- The checks of one command. An edge after the reference edge lies at least one BCLK rising edge after it (R6), and
an early or off-position edge lies before the expected point, at most 512 rising edges on (R2, R9, R10). -/
def Instr.wellFormed : Instr → Bool
  | .confirmEdge spacing _ => decide (0 < spacing)
  | .earlyEdge pos _ => decide (0 < pos) && decide (pos < 512)
  | .offPositionEdge pos _ => decide (0 < pos)
  | .identify r | .readStatus r | .setNoticeMask r | .moveLink r | .setFrameFormat r | .setLanes r
  | .stageRoute r | .stageClear r | .stageFromActive r | .readRoute r | .commit r | .cancelCommit r
  | .setGain r | .setGroup r | .groupMute r | .readGroups r | .readClips r | .defineRegion r
  | .releaseRegion r | .writeRegion r | .readRegion r | .readRegions r | .startCapture r
  | .stopCapture r | .readCapture r | .startPlayer r | .stopPlayer r | .readPlayers r
  | .setWatch r | .clearWatch r | .readWatches r => r.wellFormed
  | .resetRouting _ _ | .resetFull _ _ => true
  | .pinReset | .searchEdge | .frameArrival _ _ | .fsyncMissing _ _ | .emittedFrame _ _ _
  | .holdoverReturn _ _ | .holdoverExpired _ _ | .clockAbsent _ | .bclkReturn | .abandonGap
  | .requestMessage | .linkResync | .moveLinkEffect | .formatChangeEffect | .resetFullEffect
  | .commitApply | .commitTimeout | .groupExpiry _ | .captureFull | .capturePostDone
  | .playerNaturalEnd _ => true

end Sys2Proof
end

