-- ==== Sys2Proof/Tests/Slice0.lean ====
section
/-! SUPPORT. Tests of single commands on small states, with results taken from the manual (its worked sequences, its
tables, or counting by hand from its rules), and for every statement with hypotheses a named witness that its hypotheses
can be met, clause by clause at the ends of their ranges. -/

namespace Sys2Proof.Tests

open Sys2Proof Sys2Proof.Machine

set_option Elab.async false

/-! ## Small states -/

/-- The machine of reset with the timing unit in another state, just at its reference edge. -/
def inState (st : TimingState) : State := State.reset.setTiming { Timing.reset with state := st, sinceRef := some 0 }

/-- In LOCKED after frame arrival `n`. -/
def lockedAt (n : FrameNo) : State :=
  State.reset.setTiming { Timing.reset with state := .locked, sinceRef := some 0, frameNo := n }

/-- Receiving a message of two words and sending another. -/
def receivingMessage (s : State) : State :=
  (s.setParser { Parser.reset with rx := some ⟨0x43410000, [0, 0]⟩ }).setComposer ⟨some ⟨[1, 2, 3], 1, true⟩, false, true⟩

/-- In CONFIRM with a confirm count. -/
def confirming (n : Nat) : State :=
  State.reset.setTiming { Timing.reset with state := .confirm, sinceRef := some 0, confirmCount := some n }

/-- In HOLDOVER with a holdover count and a return run. -/
def holding (n : Nat) (run : Bool) : State :=
  State.reset.setTiming
    { Timing.reset with state := .holdover, sinceRef := some 0, holdoverCount := n, returnRun := run }

/-- An open event: its kind, the word in IN 0.7, and what is still to come. -/
def event (kind : FrameKind) (word : LinkBits) (todo : List Phase) : FrameCtx :=
  State.reset.handOver kind none (FrameIn.ofList [(7, word)]) todo

/-- A state with an event open. -/
def opened (s : State) (kind : FrameKind) (word : LinkBits) (todo : List Phase) : State :=
  s.setFrame (some (event kind word todo))

/-- A frame whose input slots carry samples. -/
def samples (l : List (Slot × Sample)) : FrameIn := FrameIn.ofList (l.map fun p => (p.1, p.2 ++ 0#8))

/-- The command answers a next state, and `p` holds of it. -/
def ran (i : Instr) (s : State) (p : State → Bool) : Bool :=
  match exec i s with
  | .next t => p t
  | .refused _ => false

/-- The last reply in the ready order: its status and its body. -/
def lastReply (s : State) : Option (Status × List Payload) := s.replies.ready.getLast?.map fun r => (r.status, r.body)

/-- A request with a tag and a body. -/
def req (tag : Tag) (body : List Payload) : Req := ⟨tag, false, body⟩

/-- An active entry in a group, with the positions given and the rest EMPTY. -/
def entry (hold : Hold) (g : GroupNo) (p0 p1 p2 : Position) : Active :=
  ⟨.driven, hold, g, Table.tab fun k => if k = 0 then p0 else if k = 1 then p1 else if k = 2 then p2 else .empty⟩

/-- Reset with one active entry. -/
def routed (s : State) (i : Slot) (e : Active) : State := s.setActive (s.active.put i e)

/-- Reset with region 2 READY: 8 words from word 8184 on, three of them valid. -/
def withRegion (r : Region) : State := State.reset.setRegions (State.reset.regions.put 2 (some r))

/-- Region 2 as it is while it is READY. -/
def readyRegion : Region := ⟨8184, 8, 3, 0, .ready⟩

/-- The capture record of 8.7, at some write offset. -/
def ringCapture (st : CaptureState) (post offset written left : Nat) : Capture :=
  { Capture.cleared with
    state := st, region := some 2, subject := some (.input 20), mode := some .ring, trigger := some (.watch 3)
    postCount := post, writeOffset := offset, written := written, postRemaining := left }

/-- A capture of one of the modes on region 2, at some write offset. -/
def onceCapture (st : CaptureState) (offset written : Nat) : Capture :=
  { Capture.cleared with
    state := st, region := some 2, subject := some (.input 20), mode := some .once, trigger := some (.watch 3)
    writeOffset := offset, written := written }

/-- Region 2 CAPTURING with a length, and a capture on it. -/
def capturing (length : Nat) (k : Capture) : State := (withRegion ⟨100, length, 0, 0, .capturing⟩).setCapture k

/-- Region 2 with one user, and player 1 playing it. -/
def playing (position : Nat) (loops : BitVec 8) : State :=
  ((withRegion ⟨100, 3, 3, 0, .playing 1⟩).setPlayers
    (State.reset.players.put 1 ⟨true, some 2, position, loops, 0, 0⟩)).setMemory [(100, 11), (101, 12), (102, 13)]

/-- A fenced request whose reply's trailer has gone. -/
def closing (eff : Effect) : State := opened ((inState .locked).setExecutor (.fenced 3 eff true)) .arrival 0 [.effect]

/-! ## Ill-formed terms are refused -/

theorem test_confirm_edge_at_its_reference_is_ill_formed : (Instr.confirmEdge 0 {}).wellFormed = false := by decide
theorem test_early_edge_at_the_reference_is_ill_formed : (Instr.earlyEdge 0 {}).wellFormed = false := by decide
theorem test_early_edge_at_the_expected_point_is_ill_formed : (Instr.earlyEdge 512 {}).wellFormed = false := by decide
theorem test_off_position_edge_at_the_reference_is_ill_formed :
    (Instr.offPositionEdge 0 {}).wellFormed = false := by decide
theorem test_request_of_49_words_is_ill_formed :
    (Instr.writeRegion (req 1 (List.replicate 49 0))).wellFormed = false ∧
    (Instr.writeRegion (req 1 (List.replicate 48 0))).wellFormed = true := by decide
theorem test_edges_inside_the_frame_are_well_formed :
    (Instr.earlyEdge 511 {}).wellFormed = true ∧ (Instr.confirmEdge 1 {}).wellFormed = true := by decide

/-! ## Link words, the CRC and gain (12.1, 12.2, the introduction's examples) -/

theorem test_table_words_spell_no_command : decodeTableWord 32 0x40410000 = none := rfl

theorem test_crc_of_the_manual : crcOf [0x40410000] = 0xC0C1 := by decide +kernel

theorem test_identify_of_the_manual : requestWords 1 1 [] = [0x40410000, 0xC1C0C100] := by decide +kernel

theorem test_words_are_classed :
    LinkWord.ofBits 0x40410000 = .header 0x40410000 ∧ LinkWord.ofBits 0x85ABCDEF = .body 5 0xABCDEF ∧
    LinkWord.ofBits 0xC1C0C100 = .trailer 1 0xC0C1 ∧ LinkWord.ofBits 0x3FFFFFFF = .brk ∧
    LinkWord.ofBits 0x3FFFFFFE = .idle := by decide

theorem test_fields_of_a_header :
    -- 01 10 000101 001000 000100 0000000011
    Header.origin 0x61481003 = 2 ∧ Header.tag 0x61481003 = 5 ∧ Header.code 0x61481003 = 8 ∧
    Header.length 0x61481003 = 4 ∧ Header.reservedSet 0x61481003 = true := by decide

theorem test_scaling_of_the_manual :
    scale (BitVec.ofInt 24 1000000) 231 = 501187 ∧ scale (BitVec.ofInt 24 (-1)) 231 = -1 ∧
    scale (BitVec.ofInt 24 (-2000000)) 231 = -1002375 ∧ scale (BitVec.ofInt 24 3000000) 223 = 948683 := by
  decide +kernel

theorem test_gain_factors_of_the_manual :
    gainFactor 231 = 525533 ∧ gainFactor 223 = 331589 ∧ gainFactor 203 = 104858 ∧ gainFactor 163 = 10486 ∧
    gainFactor 123 = 1049 ∧ gainFactor 1 = 1 := by decide +kernel

/-! ## Timing (1.7, 1.8) -/

theorem test_pin_reset : ran .pinReset (lockedAt 7) (fun t => t.timing == Timing.reset && t.powerUps == 1) = true := by
  decide +kernel

theorem test_search_edge :
    ran .searchEdge State.reset (fun t => t.timing.state == .confirm && t.timing.confirmCount == some 1) = true := by
  decide +kernel

theorem test_confirm_edge_at_300_restarts :
    ran (.confirmEdge 300 {}) (confirming 2) (fun t => t.timing.state == .confirm && t.timing.confirmCount == some 1) =
      true := by decide +kernel

theorem test_third_edge_enters_locked :
    ran (.confirmEdge 512 {}) (confirming 2) (fun t => t.timing.state == .locked && t.now == 0
      && t.notices.queue == [] && (t.composer.message.map (·.isReply)) == some false) = true := by decide +kernel

theorem test_frame_arrival :
    ran (.frameArrival (samples []) {}) (lockedAt 1)
      (fun t => t.now == 2 && t.timing.state == .locked && t.frame == none) = true := by decide +kernel

theorem test_early_edge :
    ran (.earlyEdge 200 {}) (lockedAt 9) (fun t => t.timing.state == .holdover && t.timing.lockLosses == 1
      && t.now == 9 && t.notices.queue == [⟨.frameState 9 .holdover .fsyncEarly false, 1⟩]) = true := by decide +kernel

theorem test_fsync_missing :
    ran (.fsyncMissing (samples []) {}) (lockedAt 2) (fun t => t.timing.state == .holdover && t.timing.lockLosses == 1
      && t.timing.holdoverCount == 1 && t.now == 3
      && t.notices.queue == [⟨.frameState 2 .holdover .fsyncMissing false, 1⟩]) = true := by decide +kernel

theorem test_emitted_frame_with_an_edge :
    ran (.emittedFrame true (samples []) {}) (holding 15 false)
      (fun t => t.timing.holdoverCount == 16 && t.timing.returnRun && t.now == 1) = true := by decide +kernel

theorem test_holdover_return :
    ran (.holdoverReturn (samples []) {}) (holding 16 true) (fun t => t.timing.state == .locked && t.now == 1
      && t.timing.holdoverCount == 0) = true := by decide +kernel

theorem test_off_position_edge :
    ran (.offPositionEdge 511 {}) (holding 3 true) (fun t => t.timing.state == .confirm && t.now == 0
      && t.timing.confirmCount == some 1 && t.notices.queue == []) = true := by decide +kernel

theorem test_holdover_expires :
    ran (.holdoverExpired false {}) (holding 16 true) (fun t => t.timing.state == .search && t.timing.searchEntries == 1
      && t.now == 0 && t.notices.queue == [⟨.frameState 0 .search .holdoverExpired false, 1⟩]) = true := by
  decide +kernel

theorem test_clock_absent :
    ran (.clockAbsent {}) (lockedAt 5) (fun t => t.timing.state == .search && t.timing.clockAbsent
      && t.timing.lockLosses == 1 && t.timing.searchEntries == 1
      && t.notices.queue == [⟨.frameState 5 .search .clockAbsent true, 1⟩]) = true := by decide +kernel

theorem test_bclk_return :
    ran .bclkReturn (State.reset.setTiming { Timing.reset with clockAbsent := true }) (fun t => t == State.reset) =
      true := by decide +kernel

/-- R50: the word may fall after the first of the requests that a fence held back. -/
theorem test_the_word_may_fall_between_two_requests :
    let order := Sched.order ⟨[.effect, .effectNotice, .effectParser, .drain, .word], 0⟩
      (((inState .locked).setExecutor (.fenced 3 .resetFull true)).framePhases false)
    order.filter (fun p => p == .drain || p == .word) = [.drain, .word, .drain, .drain, .drain] := by decide +kernel

/-! ## The link (2.7, chapters 2 and 3) -/

theorem test_abandon_gap :
    ran .abandonGap ((opened (lockedAt 20) .arrival 0 [.parser]).setParser
        { Parser.reset with rx := some ⟨0x43410000, [0, 0]⟩, gap := 8 })
      (fun t => t.parser.rx == none && t.parser.abandoned == 1
        && t.notices.queue == [⟨.inboundAbandoned 20 .gap 13 2, 1⟩]) = true := by decide +kernel

theorem test_request_message :
    ran .requestMessage ((opened (lockedAt 20) .arrival 0xC1C0C100 [.parser]).setParser
        { Parser.reset with rx := some ⟨0x40410000, []⟩ })
      (fun t => lastReply t == some (.done, [0x2A7640, 0x010707, 0x404204, 0x080810, 0x040810, 8192])) = true := by
  decide +kernel

theorem test_request_message_with_another_crc :
    ran .requestMessage ((opened (lockedAt 20) .arrival 0xC1C0C200 [.parser]).setParser
        { Parser.reset with rx := some ⟨0x40410000, []⟩ })
      (fun t => lastReply t == some (.badCrc, [1]) && t.parser.crcErrors == 1) = true := by decide +kernel

theorem test_link_resync :
    ran .linkResync ((((opened (lockedAt 20) .arrival 0x3FFFFFFF [.parser]).setParser
        { Parser.reset with breakRun := 3 }).setCommit (some ⟨3, .none, 1, 0⟩)).setReplies ⟨[⟨3, 12⟩], []⟩)
      (fun t => t.replies == ⟨[], []⟩ && t.commit == none
        && t.notices.queue == [⟨.linkResync 20 0 true, 1⟩]) = true := by decide +kernel

theorem test_move_link_effect :
    ran .moveLinkEffect (closing (.moveLink 3 4)) (fun t => t.link == ⟨3, 4⟩ && t.executor == .idle) = true := by
  decide +kernel

theorem test_format_change_effect :
    ran .formatChangeEffect (closing (.setFormat ⟨false, false, .activeLow⟩)) (fun t =>
      t.timing.format.spacing == 256 && t.timing.state == .search && t.timing.searchEntries == 1) = true := by
  decide +kernel

/-- R41, R44: a request that waited behind the fence of a MOVE LINK is answered once the fence is lifted, under the new
link. -/
theorem test_a_waiting_request_is_answered_as_the_fence_lifts :
    lastReply (((((inState .locked).setExecutor (.fenced 3 (.moveLink 3 4) true)).setCmdq [⟨9, 1, false, []⟩]).setReplies
        ⟨[⟨9, 1⟩], []⟩).setFrame (some (event .arrival 0 [.effect, .drain]))).finish =
      some (.done, [0x2A7640, 0x010304, 0x404204, 0x080810, 0x040810, 8192]) := by decide +kernel

/-- R175: a READ STATUS that waited behind the fence of a format change may be taken before or after the abandonment at the
entry to SEARCH; its ninth word carries Inbound Abandoned. -/
theorem test_a_waiting_request_may_precede_the_abandonment :
    let s := (((closing (.setFormat ⟨false, false, .activeLow⟩)).setCmdq [⟨9, 2, false, [0]⟩]).setReplies
      ⟨[⟨9, 2⟩], []⟩).setParser { Parser.reset with rx := some ⟨0x40410000, []⟩ }
    let counted (first : List Phase) : Option Nat :=
      (lastReply (s.setFrame (some (event .arrival 0 (Sched.order ⟨first, 0⟩ [.effect, .effectParser, .drain])))).finish).map
        fun r => (r.2.getD 8 0).toNat
    counted [] = some 1 ∧ counted [.effect, .drain] = some 0 := by decide +kernel

theorem test_reset_full_effect :
    ran .resetFullEffect (closing .resetFull) (fun t =>
      t.executor == .idle && t.timing.state == .locked && t.notices.mask == 0x77) = true := by decide +kernel

/-! ## Commits and ramps (4.5, 5.10) -/

/-- 4.5 at arrival 4001: slot 18 in group 3, re-staged. -/
def repatch : State :=
  (((routed (lockedAt 4001) 18 (entry .live 3 (.steady ⟨0, 243, .normal⟩ 243) (.steady ⟨2, 231, .normal⟩ 231) .empty)).setStaged
    (State.reset.staged.put 18 ⟨.driven, .live, 3, [⟨0, 227, .normal⟩, ⟨3, 231, .normal⟩], true⟩)).setGroups
    (State.reset.groups.put 3 ⟨8, 1, false, 0, 0⟩)).setReplies ⟨[⟨14, 12⟩], []⟩

theorem test_commit_apply :
    ran .commitApply (opened (repatch.setCommit (some ⟨14, .rampsIdle, 50, 0⟩)) .arrival 0 [.commitTest]) (fun t =>
      (t.active.row 18).pos.row 0 == .ramping ⟨0, 227, .normal⟩ 243
      && (t.active.row 18).pos.row 1 == .draining ⟨2, 231, .normal⟩ 231 (some ⟨3, 231, .normal⟩)
      && t.groups.row 3 == ⟨8, 1, false, 1, 2⟩ && lastReply t == some (.done, [1, 4001, 0, 0])) = true := by
  decide +kernel

theorem test_commit_timeout :
    ran .commitTimeout (opened (repatch.setCommit (some ⟨14, .rampsIdle, 50, 49⟩)) .emitted 0 [.commitTest]) (fun t =>
      t.commit == none && lastReply t == some (.rampTimeout, [0, 4001, 0, 50])) = true := by decide +kernel

theorem test_group_expiry :
    ran (.groupExpiry 3) (opened ((routed (lockedAt 4002) 18 (entry .live 3 (.ramping ⟨0, 227, .normal⟩ 243)
        (.draining ⟨2, 231, .normal⟩ 231 (some ⟨3, 231, .normal⟩)) .empty)).setGroups
        (State.reset.groups.put 3 ⟨8, 1, false, 1, 2⟩)) .arrival 0 [.group 3]) (fun t =>
      (t.active.row 18).pos.row 0 == .ramping ⟨0, 227, .normal⟩ 235
      && (t.active.row 18).pos.row 1 == .draining ⟨2, 231, .normal⟩ 223 (some ⟨3, 231, .normal⟩)
      && t.groups.row 3 == ⟨8, 1, false, 1, 2⟩) = true := by decide +kernel

theorem test_group_expiry_ends_a_drain_under_mute :
    ran (.groupExpiry 5) (opened ((routed (lockedAt 6001) 5 (entry .live 5 .empty
        (.draining ⟨3, 231, .normal⟩ 8 (some ⟨20, 243, .normal⟩)) .empty)).setGroups
        (State.reset.groups.put 5 ⟨8, 1, true, 1, 1⟩)) .arrival 0 [.group 5]) (fun t =>
      (t.active.row 5).pos.row 1 == .steady ⟨20, 243, .normal⟩ 0
      && t.groups.row 5 == ⟨8, 1, true, 0, 0⟩) = true := by decide +kernel

/-! ## The mixer (6.7, 6.8) -/

theorem test_sum_that_clips :
    ran (.frameArrival (samples [(0, 7000000), (1, BitVec.ofInt 24 (-2000000)), (4, 3000000)]) {})
      (routed (lockedAt 8999) 2 (entry .live 0 (.steady ⟨0, 243, .normal⟩ 243) (.steady ⟨1, 231, .inverted⟩ 231)
        (.steady ⟨4, 223, .normal⟩ 223)))
      (fun t => t.mixer.clips.row 2 == 1
        && (t.mixer.flight.map fun f => (f.slots.row 2).result) == some (some 8388607)) = true := by decide +kernel

/-- R108: two slots whose counts rise from 0 post in ascending slot number, so the CLIP notice lists them so. -/
theorem test_clips_are_posted_in_ascending_slot_number :
    let loud : FrameCtx := State.reset.handOver .arrival none (samples [(1, 0x800000)]) []
    let e := entry .live 0 (.steady ⟨1, 243, .inverted⟩ 243) .empty .empty
    ((((routed (routed (inState .locked) 9 e) 2 e).setNotices ⟨[], 0x80, 0, 0⟩).mix loud).notices.queue.map (·.val)) =
      [.clip 0 [2, 9] 0] := by decide +kernel

/-- 6.8 at arrival 800: OUT 0.1 with a hold policy, 300 in flight and 200 sent last. -/
def heldOut (hold : Hold) : State :=
  (routed (lockedAt 800) 1 (entry hold 0 (.steady ⟨1, 243, .normal⟩ 243) .empty .empty)).setMixer
    ⟨Table.tab fun _ => 0, Table.tab fun _ => 200, some ⟨false, Table.tab fun _ => ⟨.driven, hold, some 300⟩⟩⟩

theorem test_hold_policies :
    ran (.fsyncMissing (samples []) {}) (heldOut .live) (fun t => t.pins.row 1 == some (300#24 ++ 0#8)) = true ∧
    ran (.fsyncMissing (samples []) {}) (heldOut .repeatLast) (fun t => t.pins.row 1 == some (200#24 ++ 0#8)) = true ∧
    ran (.fsyncMissing (samples []) {}) (heldOut .zero) (fun t => t.pins.row 1 == some 0) = true := by decide +kernel

/-! ## Capture, players and watches (8.7, 9.5, 10.6) -/

theorem test_capture_full :
    ran .captureFull (opened (capturing 8 (onceCapture .filling 7 7)) .arrival 0 [.capture]) (fun t =>
      t.capture.state == .idle && t.capture.endReason == some .full
      && t.regions.row 2 == some ⟨100, 8, 8, 0, .ready⟩) = true := by decide +kernel

theorem test_capture_post_done :
    ran .capturePostDone (opened (capturing 8 (ringCapture .post 3 4 8 1)) .arrival 0 [.capture]) (fun t =>
      t.capture.writeOffset == 5 && t.capture.endReason == some .postDone
      && t.regions.row 2 == some ⟨100, 8, 8, 5, .ready⟩) = true := by decide +kernel

theorem test_player_natural_end :
    ran (.playerNaturalEnd 1) (opened (playing 2 1) .arrival 0 [.player 1, .playerNotice 1]) (fun t =>
      t.players.row 1 == ⟨false, some 2, 0, 0, 1, 0⟩ && t.regions.row 2 == some ⟨100, 3, 3, 0, .ready⟩
      && t.notices.queue == [⟨.playerDone 1 0 2 1, 1⟩]) = true := by decide +kernel

/-- R158: taken between the natural end and the part that posts it, a STOP PLAYER finds PLAYER_DONE posted and the player
IDLE. -/
theorem test_stop_player_after_a_natural_end_finds_it_posted :
    let s := (opened (playing 2 1) .arrival 0 [.player 1, .playerNotice 1]).runPhase (.player 1)
    s.notices.queue = [] ∧ ran (.stopPlayer (req 1 [0x800000])) s (fun t =>
      lastReply t == some (.done, [0xA80000, 1, 0]) && t.notices.queue == [⟨.playerDone 1 0 2 1, 1⟩]
      && t.runPhase (.playerNotice 1) == t) = true := by decide +kernel

/-- R158 and R22, at one arrival: the trailer of a STOP PLAYER, taken after player 1's frame step and before its posting, and
taken before the frame step. -/
theorem test_stop_player_through_the_link_finds_the_end_posted :
    (match requestWords 1 28 [0x800000] with
      | [header, word, trailer] =>
        let s := ((playing 2 1).setTiming (lockedAt 5).timing).setParser { Parser.reset with rx := some ⟨header, [word]⟩ }
        ran (.frameArrival (FrameIn.ofList [(7, trailer)]) ⟨[.player 1, .parser], 21⟩) s (fun t =>
          lastReply t == some (.done, [0xA80000, 1, 0]) && t.notices.queue == [⟨.playerDone 1 6 2 1, 1⟩]
          && (t.frame.map fun c => c.todo.contains (.playerNotice 1)) == some true)
        && ran (.frameArrival (FrameIn.ofList [(7, trailer)]) ⟨[.parser], 1⟩) s (fun t =>
          lastReply t == some (.done, [0xA80101, 0, 2]) && t.notices.queue == [])
      | _ => false) = true := by decide +kernel

/-- Player 1 at its last sample, a source that clips, both kinds enabled, and a message on the link that keeps both
notices in the queue. -/
def endingAndClipping : State :=
  ((((routed (playing 2 1) 1 (entry .live 0 (.steady ⟨1, 243, .inverted⟩ 243) .empty .empty)).setTiming
    (lockedAt 5).timing).setNotices ⟨[], 0xC0, 0, 0⟩).setComposer ⟨some ⟨[1, 2, 3], 1, false⟩, false, false⟩)

/-- R52: either posting may be first. -/
theorem test_player_done_comes_before_or_after_a_clip :
    ran (.frameArrival (samples [(1, 0x800000)]) {}) endingAndClipping
      (fun t => t.notices.queue.map (·.val.kind) == [7, 8]) = true ∧
    ran (.frameArrival (samples [(1, 0x800000)]) ⟨[.player 0, .player 1, .output, .mixer], 0⟩) endingAndClipping
      (fun t => t.notices.queue.map (·.val.kind) == [8, 7]) = true := by decide +kernel

/-- 10.6 at arrival 3006, but for the words of the link. -/
def watching (st : WatchState) (run : Nat) : State :=
  (lockedAt 3006).setWatches (State.reset.watches.put 3 ⟨st, some ⟨.input 20, .above, 1000000, 800000, 3⟩, run⟩)

theorem test_watch_alerts_at_its_duration :
    ran (.frameArrival (samples [(20, 1400000)]) {}) (watching .pending 2) (fun t =>
      (t.watches.row 3).state == .alerted && (t.watches.row 3).run == 3) = true := by decide +kernel

theorem test_watch_clears_below_its_release :
    ran (.frameArrival (samples [(20, 790000)]) {}) (watching .alerted 3) (fun t =>
      (t.watches.row 3).state == .clear && (t.watches.row 3).run == 0) = true := by decide +kernel

/-! ## Requests: the replies of R185's table -/

/-- The reply a request brings in a state. -/
def answers (i : Instr) (s : State) (st : Status) (body : List Payload) : Bool :=
  ran i s fun t => lastReply t == some (st, body)

theorem test_read_status :
    answers (.readStatus (req 1 [0])) (lockedAt 5) .done
      -- LOCKED, 16 slots, delay 1, input set 1111, output set 0001
      [0x9BC400, 5, 0, 0, 0, 0, 0, 0, 0, 0, 0] = true := by decide +kernel
theorem test_reset_routing : answers (.resetRouting 1 false) State.reset .done [1] = true := by decide +kernel
theorem test_reset_full : answers (.resetFull 1 false) State.reset .done [2] = true := by decide +kernel
theorem test_set_notice_mask :
    ran (.setNoticeMask (req 1 [0xFF])) State.reset (fun t => t.notices.mask == 0xFF) = true := by decide +kernel
theorem test_move_link : answers (.moveLink (req 1 [0x000304])) State.reset .done [0x000304] = true := by decide +kernel
theorem test_set_frame_format :
    answers (.setFrameFormat (req 1 [0x000208])) State.reset .done [0x000208] = true := by decide +kernel
theorem test_set_lanes_must_keep_the_link :
    answers (.setLanes (req 1 [0x0000E1])) State.reset .laneHoldsLink [] = true := by decide +kernel
theorem test_stage_route :
    ran (.stageRoute (req 1 [0x4AB001, 0x0BC700])) State.reset
      (fun t => t.staged.row 18 == ⟨.driven, .repeatLast, 3, [⟨5, 227, .inverted⟩], true⟩) = true := by decide +kernel
theorem test_stage_clear_all : answers (.stageClear (req 1 [1])) State.reset .done [64] = true := by decide +kernel
theorem test_stage_from_active :
    ran (.stageFromActive (req 1 [])) repatch (fun t =>
      t.staged.row 18 == ⟨.driven, .live, 3, [⟨0, 243, .normal⟩, ⟨2, 231, .normal⟩], false⟩) = true := by decide +kernel
theorem test_read_route :
    -- slot 18, DRIVEN, LIVE, group 3, dirty, two records
    answers (.readRoute (req 1 [0x480000])) repatch .done [0x4A3802, 0x01C600, 0x07CE00] = true := by decide +kernel
theorem test_commit :
    ran (.commit (req 14 [0x010032])) State.reset (fun t =>
      t.commit == some ⟨14, .rampsIdle, 50, 0⟩ && t.replies == ⟨[⟨14, 12⟩], []⟩) = true := by decide +kernel
theorem test_cancel_commit : answers (.cancelCommit (req 1 [])) State.reset .noCommit [] = true := by decide +kernel
theorem test_set_gain :
    -- OUT 1.2 position 1 to code 200: RAMPING, source 2, target 200, current 231
    answers (.setGain (req 1 [0x49C800])) repatch .done [0x813200, 0xE70000] = true := by decide +kernel
theorem test_set_group :
    answers (.setGroup (req 1 [0xB00400])) State.reset .done [0xB00400, 0] = true := by decide +kernel
theorem test_group_mute :
    answers (.groupMute (req 1 [0xA00200])) State.reset .done [0xA40600, 0] = true := by decide +kernel
theorem test_read_groups :
    ran (.readGroups (req 1 [])) State.reset (fun t =>
      (t.replies.ready.map fun r => (r.body.length, r.body.take 4)) == [(16, [0x040400, 0, 0x240400, 0])]) = true := by
  decide +kernel
theorem test_read_clips :
    ran (.readClips (req 1 [1])) ((lockedAt 0).setMixer ⟨Table.tab fun i => if i = 2 then 0x0102 else 0,
        Table.tab fun _ => 0, none⟩)
      (fun t => t.mixer.clips.row 2 == 0
        && (t.replies.ready.map fun r => (r.body.length, r.body.take 3)) == [(44, [1, 0, 0x000102])]) = true := by
  decide +kernel
theorem test_define_region :
    answers (.defineRegion (req 1 [0x401FF8, 8])) State.reset .done [0x480008, 8184, 0, 0] = true := by decide +kernel
theorem test_define_region_past_the_memory :
    answers (.defineRegion (req 1 [0x601C28, 1000])) State.reset .badField [] = true := by decide +kernel
theorem test_release_region :
    answers (.releaseRegion (req 1 [0x400000])) (withRegion readyRegion) .done [0x400000] = true := by decide +kernel
theorem test_write_region :
    ran (.writeRegion (req 1 [0x400602, 21, 22])) (withRegion readyRegion) (fun t =>
      t.memory == [(8190, 21), (8191, 22)] && t.regions.row 2 == some ⟨8184, 8, 8, 0, .ready⟩) = true := by decide +kernel
theorem test_read_region_oldest_first :
    answers (.readRegion (req 1 [0x400102])) ((withRegion ⟨100, 3, 3, 2, .ready⟩).setMemory
      [(100, 11), (101, 12), (102, 13)]) .done [0x400102, 11, 12] = true := by decide +kernel
theorem test_read_regions :
    ran (.readRegions (req 1 [])) (withRegion readyRegion) (fun t =>
      (t.replies.ready.map fun r => (r.body.drop 8).take 4) == [[0x480008, 8184, 3, 0]]) = true := by decide +kernel
theorem test_start_capture :
    ran (.startCapture (req 1 [0x08514C, 3])) (withRegion readyRegion) (fun t =>
      t.capture == ringCapture .filling 3 0 0 0 && t.regions.row 2 == some ⟨8184, 8, 0, 0, .capturing⟩) = true := by
  decide +kernel
theorem test_stop_capture :
    answers (.stopCapture (req 1 [])) (capturing 8 (ringCapture .filling 3 3 8 0)) .done [0x098000, 8, 8, 3] = true := by
  decide +kernel
theorem test_read_capture :
    answers (.readCapture (req 1 [])) State.reset .done [0x0303C0, 0, 0, 0, 0, 0, 0, 0, 0] = true := by decide +kernel
theorem test_start_player :
    answers (.startPlayer (req 1 [0x880002])) (withRegion readyRegion) .done [0xE80002, 0, 0, 0, 3] = true := by
  decide +kernel
theorem test_stop_player :
    answers (.stopPlayer (req 1 [0x800000])) (playing 2 1) .done [0xA80101, 0, 2] = true := by decide +kernel
theorem test_read_players :
    answers (.readPlayers (req 1 [])) State.reset .done [0, 0, 0, 0, 0x800000, 0, 0, 0] = true := by decide +kernel
theorem test_set_watch :
    answers (.setWatch (req 1 [0x305000, 1000000, 800000, 3])) State.reset .done [0x345000, 1000000, 800000, 3, 0] =
      true := by decide +kernel
theorem test_clear_watch :
    answers (.clearWatch (req 1 [0x300000])) (watching .alerted 3) .done [0x300030] = true := by decide +kernel
theorem test_read_watches :
    ran (.readWatches (req 1 [])) (watching .pending 2) (fun t =>
      (t.replies.ready.map fun r => (r.body.drop 9).take 3) == [[0x850002, 1000000, 800000]]) = true := by decide +kernel

/-! ## Witnesses of the statements' hypotheses

Each theorem meets the hypotheses of the statement it is named after, those of one clause together. -/

theorem witness_StepTakesFrontCommand :
    (State.reset.setPending [.bclkReturn, .pinReset]).pending = [.bclkReturn, .pinReset] ∧
    State.reset.pending = [] ∧ State.reset.frame = none := by decide +kernel

/-- A locked machine with a frame arrival in front, a pending commit, a ramp and a capture: the state for which the laws below
are witnessed. -/
def arriving : State :=
  (((((capturing 8 (ringCapture .filling 3 3 8 0)).setTiming (inState .locked).timing).setActive
    (State.reset.active.put 18 (entry .live 3 (.ramping ⟨0, 227, .normal⟩ 243) .empty .empty))).setGroups
    (State.reset.groups.put 3 ⟨8, 1, false, 1, 1⟩)).setCommit (some ⟨14, .rampsIdle, 50, 0⟩)).setReplies ⟨[⟨14, 12⟩], []⟩
    |>.setMemory [(100, 5), (107, 6)] |>.setPending [.frameArrival (FrameIn.ofList []) {}]

theorem witness_step_of_the_laws : ∃ t, step arriving = .next t := ⟨_, rfl⟩
theorem witness_TimingLawIsKept : arriving.timingLaw := by decide +kernel
theorem witness_LinkLawIsKept : arriving.linkLaw := by decide +kernel
theorem witness_InboundLawIsKept : arriving.inboundLaw := by decide +kernel
theorem witness_QueueLawIsKept : arriving.queueLaw := by decide +kernel
theorem witness_RampLawIsKept : arriving.rampLaw := by decide +kernel
theorem witness_RegionLawIsKept : arriving.regionLaw := by decide +kernel
theorem witness_MemoryFormIsKept : arriving.memoryLaw := by decide +kernel

theorem witness_FrameNumberCountsDeclaredFrames :
    (∃ t, exec (.frameArrival (samples []) {}) (lockedAt 1) = .next t) ∧ ∃ t, exec .pinReset (lockedAt 1) = .next t :=
  ⟨⟨_, rfl⟩, _, rfl⟩

theorem witness_MemoryReadsBackAndIsKept :
    (0 : Nat) ≠ 8191 ∧
    (1 ≤ (⟨8191, 1, 1, 0, .ready⟩ : Region).length ∧ 8191 + (⟨8191, 1, 1, 0, .ready⟩ : Region).length ≤ 8192) ∧
    (⟨1, 20, false, []⟩ : Queued).code.toNat ≠ 21 ∧ (⟨1, 22, false, []⟩ : Queued).code.toNat ≠ 21 ∧
    Phase.effect ≠ .capture ∧ Phase.effect ≠ .parser ∧ Phase.effect ≠ .drain := by decide

theorem witness_FramingIsAcquired :
    (State.reset.finish.timing.state = .search ∧ State.reset.finish.timing.clockAbsent = false) ∧
    ((confirming 1).finish.timing.state = .confirm ∧ 511 ≠ (confirming 1).finish.timing.format.spacing ∧
      512 = (confirming 1).finish.timing.format.spacing ∧ (confirming 1).finish.timing.confirmCount = some 1) ∧
    ((confirming 2).finish.timing.state = .confirm ∧ 513 ≠ (confirming 2).finish.timing.format.spacing ∧
      512 = (confirming 2).finish.timing.format.spacing ∧ (confirming 2).finish.timing.confirmCount = some 2) := by
  decide +kernel

theorem witness_FramingIsAcquired_next_point :
    ∀ n ∈ [0, 511], ({ Timing.reset with state := .holdover, sinceRef := some n } : Timing).sinceRef = some n := by decide

theorem witness_FrameArrivalHandsOver : 64 ≤ 64 ∧ (inState .locked).finish.timing.state = .locked := by decide +kernel

theorem witness_FrameArrivalHandsOver_closing :
    State.reset.closing = false ∧ ((inState .locked).setExecutor (.fenced 3 .resetFull false)).closing = false ∧
    ((inState .locked).setExecutor (.fenced 3 .resetFull true)).closing = true := by decide

theorem witness_FrameArrivalHandsOver_orders :
    let parts : List Phase := [.output, .commitTest, .mixer, .word]
    let order : List Phase := [.word, .commitTest, .output, .mixer]
    (parts.Pairwise fun p q => q.mustPrecede p = false) ∧ (order.Pairwise fun p q => q.mustPrecede p = false) ∧
    order.Perm parts ∧ order ≠ parts := by decide

theorem witness_HoldoverPointsHandOver_with_a_message :
    (receivingMessage (inState .locked)).finish.timing.state = .locked ∧
    (receivingMessage (inState .locked)).finish.parser.rx ≠ none ∧
    (receivingMessage (inState .locked)).finish.composer.message ≠ none := by decide +kernel

theorem witness_HoldoverPointsHandOver :
    64 ≤ 64 ∧ (inState .locked).finish.timing.state = .locked ∧
    (∀ edge : Bool, (holding 15 false).finish.timing.state = .holdover ∧
      (holding 15 false).finish.timing.holdoverCount < 16 ∧
      (edge = true → (holding 15 false).finish.timing.returnRun = false)) ∧
    ((holding 16 true).finish.timing.state = .holdover ∧ (holding 16 true).finish.timing.returnRun = true) := by
  decide +kernel

theorem witness_DeclaredFramesComplete :
    (inState .locked).finish.timing.state = .locked ∧
    (∀ edge : Bool, (holding 0 false).finish.timing.state = .holdover ∧
      (holding 0 false).finish.timing.holdoverCount < 16 ∧
      (edge = true → (holding 0 false).finish.timing.returnRun = false)) ∧
    ((holding 1 true).finish.timing.state = .holdover ∧ (holding 1 true).finish.timing.returnRun = true) := by
  decide +kernel

theorem witness_DeclaredFramesComplete_parts :
    (opened (inState .locked) .arrival 0 []).frame = some (event .arrival 0 []) ∧ (event .arrival 0 []).todo = [] ∧
    (event .arrival 0 [.mixer, .word]).todo = .mixer :: [.word] ∧ (event .arrival 0 []).entry = none ∧
    (State.reset.handOver .bare (some ⟨.locked, .confirmed, 5⟩) (samples []) []).entry = some ⟨.locked, .confirmed, 5⟩ ∧
    (∀ tag eff, (inState .locked).executor ≠ .fenced tag eff true) ∧
    (opened (inState .locked) .arrival 0 [.capture]).atPhase (event .arrival 0 [.capture]) .capture ∧
    (opened (inState .locked) .arrival 0 [.group 7]).atPhase (event .arrival 0 [.group 7]) (.group 7) :=
  ⟨rfl, rfl, rfl, rfl, rfl, fun _ _ h => (by cases h), ⟨rfl, by decide⟩, rfl, by decide⟩

/-- A fence whose reply's trailer has gone, no request waiting. -/
def fencedIn (st : TimingState) (eff : Effect) : State := (inState st).setExecutor (.fenced 3 eff true)

theorem witness_EarlyEdgeEntersHoldover :
    (inState .locked).finish.timing.state = .locked ∧ 0 < 1 ∧ 511 < (inState .locked).finish.timing.format.spacing := by
  decide +kernel

theorem witness_OffPositionEdgeEntersConfirm :
    (holding 3 true).finish.timing.state = .holdover ∧ (holding 3 true).finish.timing.sinceRef.getD 0 < 1 ∧
    511 < (holding 3 true).finish.timing.nextPoint ∧ (holding 3 true).finish.closing = false := by decide +kernel

theorem witness_OffPositionEdgeEntersConfirm_at_a_close :
    ∀ eff ∈ ([.moveLink 3 4, .setFormat ⟨false, false, .activeLow⟩, .resetFull] : List Effect),
      (fencedIn .holdover eff).finish.executor = .fenced 3 eff true ∧ (fencedIn .holdover eff).finish.cmdq = [] ∧
      (fencedIn .holdover eff).finish.timing.state = .holdover ∧
      (fencedIn .holdover eff).finish.timing.sinceRef.getD 0 < 1 ∧
      511 < (fencedIn .holdover eff).finish.timing.nextPoint := by decide +kernel

theorem witness_HoldoverExpires :
    (holding 16 false).finish.timing.state = .holdover ∧ 16 ≤ (holding 16 false).finish.timing.holdoverCount ∧
    (∀ edge : Bool, edge = true → (holding 16 false).finish.timing.returnRun = false) ∧
    (holding 16 false).finish.parser.rx = none := by decide +kernel

theorem witness_BitClockAbsence :
    (State.reset.finish.timing.clockAbsent = false ∧ State.reset.finish.timing.state = .search) ∧
    ((inState .locked).finish.timing.clockAbsent = false ∧ (inState .locked).finish.timing.state ≠ .search ∧
      (inState .locked).finish.closing = false) ∧
    (State.reset.setTiming { Timing.reset with clockAbsent := true }).finish.timing.clockAbsent = true := by
  decide +kernel

theorem witness_BitClockAbsence_at_a_close :
    ∀ eff ∈ ([.moveLink 3 4, .setFormat ⟨false, false, .activeLow⟩, .resetFull] : List Effect),
      (fencedIn .locked eff).finish.executor = .fenced 3 eff true ∧ (fencedIn .locked eff).finish.cmdq = [] ∧
      (fencedIn .locked eff).finish.timing.clockAbsent = false ∧
      (fencedIn .locked eff).finish.timing.state ≠ .search := by decide +kernel

theorem witness_LinkWordsReadBack : (0x3FFFFFFE : BitVec 30) ≠ BitVec.allOnes 30 := by decide

theorem witness_MessageReachesTheTrailerChecks :
    State.reset.parser.rx = none ∧ (List.replicate 48 (0 : Payload)).length ≤ 48 := by decide +kernel

/-- In BODY with some words stored, a gap count and a BREAK run. -/
def receiving (words gap breaks : Nat) : State :=
  (inState .locked).setParser
    { Parser.reset with rx := some ⟨0x43410000, List.replicate words 0⟩, gap := gap, breakRun := breaks }

theorem witness_ParserTakesAWord_in_HUNT :
    State.reset.parser.rx = none ∧
    (LinkWord.ofBits 0x40410000 = .header 0x40410000 ∧ Header.origin 0x40410000 = 0) ∧
    (LinkWord.ofBits 0x50410000 = .header 0x50410000 ∧ Header.origin 0x50410000 ≠ 0) ∧
    LinkWord.ofBits 0x80000000 = .body 0 0 ∧ LinkWord.ofBits 0xC1C0C100 = .trailer 1 0xC0C1 ∧
    LinkWord.ofBits 0 = .idle ∧
    (LinkWord.ofBits 0x3FFFFFFF = .brk ∧ State.reset.parser.breakRun < 3) := by decide +kernel

theorem witness_ParserTakesAWord_in_BODY :
    (receiving 47 8 2).parser.rx = some ⟨0x43410000, List.replicate 47 0⟩ ∧
    (LinkWord.ofBits 0xAF000000 = .body 47 0 ∧ (47 : BitVec 6).toNat = 47 ∧ 47 < 48) ∧
    (LinkWord.ofBits 0xAE000000 = .body 46 0 ∧ (46 : BitVec 6).toNat ≠ 47) ∧
    (LinkWord.ofBits 0xB0000000 = .body 48 0 ∧ (48 : BitVec 6).toNat = 48 ∧ 48 ≤ 48) ∧
    LinkWord.ofBits 0x40410000 = .header 0x40410000 ∧
    (LinkWord.ofBits 0 = .idle ∧ (receiving 47 7 2).parser.gap < 8) ∧
    (LinkWord.ofBits 0x3FFFFFFF = .brk ∧ (receiving 47 7 2).parser.breakRun < 3 ∧ (receiving 47 7 2).parser.gap < 8) := by
  decide +kernel

/-- A Reply Queue with some places RESERVED, the first for tag 3. -/
def reserving (n : Nat) : ReplyQueue := ⟨(List.range n).map fun i => ⟨BitVec.ofNat 6 (i + 3), 12⟩, []⟩

/-- A request waiting in the Command Queue. -/
def waiting : Queued := ⟨3, 1, false, []⟩

theorem witness_TrailerChecksInOrder :
    ((2 : Tag) ≠ Header.tag 0x40410000 ∧ (1 : Tag) = Header.tag 0x40410000) ∧
    ([0].length ≠ (Header.length 0x40410000).toNat ∧ ([] : List LinkBits).length = (Header.length 0x40410000).toNat) ∧
    (crcOf [0x40410000] ≠ 0xC0C2 ∧ crcOf [0x40410000] = 0xC0C1) ∧
    ((reserving 8).free = 0 ∧ (reserving 7).free ≠ 0) ∧
    (¬ (1 ≤ (0 : Code).toNat ∧ (0 : Code).toNat ≤ 32) ∧ ¬ (1 ≤ (33 : Code).toNat ∧ (33 : Code).toNat ≤ 32) ∧
      (1 ≤ (1 : Code).toNat ∧ (32 : Code).toNat ≤ 32)) ∧
    ((reserving 1).live 3 = true ∧ (reserving 1).live 4 = false) ∧
    (4 ≤ (List.replicate 4 waiting).length ∧ (List.replicate 3 waiting).length < 4) ∧
    ((inState .locked).setExecutor (.fenced 3 .resetFull false)).executor ≠ .idle := by decide +kernel

/-- In BODY with the parser's part of an arrival to come. -/
def parsing (w : LinkBits) (rx : Option Rx) (gap breaks : Nat) : State :=
  (opened (inState .locked) .arrival w [.parser]).setParser { Parser.reset with rx := rx, gap := gap, breakRun := breaks }

theorem witness_ParserEventsComplete :
    (∀ w : LinkBits, (parsing w (some ⟨0x40410000, []⟩) 8 2).atPhase (event .arrival w [.parser]) .parser ∧
      (parsing w (some ⟨0x40410000, []⟩) 8 2).parser.rx = some ⟨0x40410000, []⟩ ∧
      8 ≤ (parsing w (some ⟨0x40410000, []⟩) 8 2).parser.gap ∧
      (parsing w (some ⟨0x40410000, []⟩) 8 2).parser.breakRun < 3) ∧
    LinkWord.ofBits 0 = .idle ∧ LinkWord.ofBits 0x3FFFFFFF = .brk ∧ LinkWord.ofBits 0xC1C0C100 = .trailer 1 0xC0C1 ∧
    3 ≤ (parsing 0x3FFFFFFF none 0 3).parser.breakRun := by
  refine ⟨fun w => ⟨⟨rfl, ?_, ?_⟩, rfl, ?_, ?_⟩, ?_⟩
  · exact List.mem_singleton.2 rfl
  · exact fun q h => by rw [List.mem_singleton.1 h]; rfl
  · exact Nat.le_refl 8
  · exact Nat.lt_succ_self 2
  · decide +kernel

theorem witness_ParserEventsComplete_words :
    (event .arrival 0 [.parser]).word = 0 ∧ (event .arrival 0x3FFFFFFF [.parser]).word = 0x3FFFFFFF ∧
    (event .arrival 0xC1C0C100 [.parser]).word = 0xC1C0C100 := by decide +kernel

theorem witness_EffectsFollowTheirEvent :
    ∀ eff ∈ ([.moveLink 3 4, .setFormat ⟨false, false, .activeLow⟩, .resetFull] : List Effect),
      (closing eff).atPhase (event .arrival 0 [.effect]) .effect ∧ (closing eff).executor = .fenced 3 eff true ∧
      (closing eff).timing.state ≠ .search := by decide +kernel

theorem witness_EffectsFollowTheirEvent_of_a_format_change :
    ∀ st ∈ ([.locked, .search] : List TimingState),
      let c := event .arrival 0 [.effect, .effectNotice, .effectParser]
      let s := (fencedIn st (.setFormat ⟨false, false, .activeLow⟩)).setFrame (some c)
      s.atPhase c .effect ∧ s.executor = .fenced 3 (.setFormat ⟨false, false, .activeLow⟩) true ∧ s.timing.state = st ∧
      .effectNotice ∈ c.todo ∧ .effectParser ∈ c.todo := by decide +kernel

/-- A CLIP notice and a RAMP_DONE notice of group 3. -/
def clipNotice : NoticeVal := .clip 1 [2] 0
def rampNotice : NoticeVal := .rampDone 3 7

theorem witness_PostingMeetsFourTests :
    NoticeSide.reset.mask.getLsbD (clipNotice.kind - 1) = false ∧
    ((0xFF : BitVec 8).getLsbD (clipNotice.kind - 1) = true ∧ (0xFF : BitVec 8).getLsbD (rampNotice.kind - 1) = true) ∧
    rampNotice.kind ≠ 8 ∧ clipNotice.sameKey clipNotice = true ∧ clipNotice.sameKey rampNotice = false ∧
    ((List.replicate 15 (⟨clipNotice, 1⟩ : Notice)).length < 16 ∧ 16 ≤ (List.replicate 16 (⟨clipNotice, 1⟩ : Notice)).length) ∧
    ((2 : Slot) ∈ ([2] : List Slot) ∧ (3 : Slot) ∉ List.replicate 31 (2 : Slot) ∧
      (List.replicate 31 (2 : Slot)).length < 32 ∧ 32 ≤ (List.replicate 32 (2 : Slot)).length) := by decide +kernel

/-- A READY reply. -/
def aReply : Reply := ⟨12, .done, [1, 2, 3], false⟩

/-- The sides of the arbiter. -/
def arbitrating (ready : List Reply) (queue : List Notice) (lastReply : Bool) : State :=
  (((inState .locked).setReplies ⟨[], ready⟩).setNotices { NoticeSide.reset with queue := queue }).setComposer
    ⟨none, false, lastReply⟩

theorem witness_ArbiterChooses :
    ((arbitrating [] [] true).composer.message = none ∧ (arbitrating [] [] true).replies.ready = [] ∧
      (arbitrating [] [] true).notices.queue = []) ∧
    ((arbitrating [aReply] [⟨rampNotice, 1⟩] false).composer.message = none ∧
      (arbitrating [aReply] [⟨rampNotice, 1⟩] false).replies.ready = [aReply] ∧
      (arbitrating [aReply] [⟨rampNotice, 1⟩] false).composer.lastReply = false) ∧
    ((arbitrating [aReply] [⟨rampNotice, 1⟩] true).composer.message = none ∧
      (arbitrating [aReply] [⟨rampNotice, 1⟩] true).notices.queue = [⟨rampNotice, 1⟩] ∧
      (arbitrating [aReply] [⟨rampNotice, 1⟩] true).composer.lastReply = true) := by decide +kernel

/-- A message of two words in progress, and a READY reply at the head of the order. -/
def sending (sent : Nat) (isReply restart : Bool) : State :=
  ((inState .locked).setComposer ⟨some ⟨[0x50000000, 0xC0000000], sent, isReply⟩, restart, isReply⟩).setReplies
    ⟨[], [aReply]⟩

theorem witness_ComposerPlacesItsWords :
    ((sending 1 true true).composer.message = some ⟨[0x50000000, 0xC0000000], 1, true⟩ ∧
      (sending 1 true true).composer.restart = true ∧ 0 + 1 < 2) ∧
    ((sending 1 false false).composer.message = some ⟨[0x50000000, 0xC0000000], 1, false⟩ ∧
      (sending 1 false false).composer.restart = false ∧ 2 = 1 + 1) ∧
    ((sending 1 true false).composer.message = some ⟨[0x50000000, 0xC0000000], 1, true⟩ ∧
      (sending 1 true false).composer.restart = false ∧ (sending 1 true false).replies.ready = [aReply]) ∧
    (∀ x ∈ ([.locked, .holdover, .search, .confirm] : List TimingState),
      laneOn (inState x).timing.outLanes (inState x).link.outb = true ∧
      (inState x).timing.format.present (inState x).link.outb = true ∧ (inState x).timing.state = x) := by
  decide +kernel

theorem witness_CommitComparesPositions :
    (repatch.staged.row 18).dirty = true ∧ ((0 : Source) == 0 && Polarity.normal == .normal) = true ∧
    ((3 : Source) == 2 && Polarity.normal == .normal) = false ∧
    (repatch.staged.row 18).list[0]? = some ⟨0, 227, .normal⟩ ∧ (repatch.staged.row 18).list[3]? = none := by decide +kernel

theorem witness_CommitApplyCompletes :
    ((opened (repatch.setCommit (some ⟨14, .rampsIdle, 50, 0⟩)) .arrival 0 [.commitTest]).atPhase
      (event .arrival 0 [.commitTest]) .commitTest ∧ (event .arrival 0 [.commitTest]).kind = .arrival) ∧
    (∀ (i : Slot) (n : BitVec 2), ((repatch.active.row i).pos.row n).moving = false) ∧
    (repatch.staged.row 18).dirty = true ∧ (repatch.staged.row 63).dirty = false := by decide +kernel

/-- 4.5 at arrival 4000: a position of slot 3 still moves. -/
def stillMoving : State :=
  (routed repatch 3 (entry .live 1 (.ramping ⟨5, 243, .normal⟩ 241) .empty .empty)).setCommit
    (some ⟨14, .rampsIdle, 50, 49⟩)

theorem witness_CommitWaitsOrTimesOut :
    (stillMoving.commit = some ⟨14, .rampsIdle, 50, 49⟩ ∧ ((stillMoving.active.row 3).pos.row 0).moving = true) ∧
    (opened stillMoving .arrival 0 [.commitTest]).atPhase (event .arrival 0 [.commitTest]) .commitTest ∧
    (event .emitted 0 [.commitTest]).kind = .emitted ∧
    ((50 : BitVec 16).toNat ≤ (satInc (49 : BitVec 16)).toNat ∧ ¬ (50 : BitVec 16).toNat ≤ (satInc (48 : BitVec 16)).toNat) := by
  decide +kernel

/-- Group 3 with movers and a countdown. -/
def ramping (moving countdown : Nat) : State :=
  (routed (inState .locked) 18 (entry .live 3 (.ramping ⟨0, 8, .normal⟩ 0) .empty .empty)).setGroups
    (State.reset.groups.put 3 ⟨8, 2, false, countdown, moving⟩)

theorem witness_ExpiryMovesOnePosition :
    ((8 : Gain).toNat ≤ 8 ∧ 8 < (9 : Gain).toNat) ∧ ((ramping 0 0).groups.row 3).moving = 0 ∧
    (0 < ((ramping 1 2).groups.row 3).moving ∧ 2 ≤ ((ramping 1 2).groups.row 3).countdown) := by decide +kernel

theorem witness_GroupExpiryCompletes :
    let s := opened (ramping 1 1) .arrival 0 [.group 3]
    s.atPhase (event .arrival 0 [.group 3]) (.group 3) ∧ 0 < (s.groups.row 3).moving ∧ (s.groups.row 3).countdown = 1 ∧
    (s.active.row 18).group = 3 ∧ (s.active.row 17).group ≠ 3 := by decide +kernel

theorem witness_GroupExpiryCompletes_at_the_last_stop :
    ran (.groupExpiry 3) (opened (ramping 1 1) .arrival 0 [.group 3]) (fun t =>
      movers 3 t.active == 0) = true ∧
    (opened (ramping 1 1) .arrival 0 [.group 3]).rampLaw := by decide +kernel

theorem witness_GroupExpiryCompletes_with_movers_left :
    ran (.groupExpiry 3) (opened ((ramping 1 1).setGroups (State.reset.groups.put 3 ⟨4, 2, false, 1, 1⟩)) .arrival 0
      [.group 3]) (fun t => decide (0 < movers 3 t.active)) = true := by decide +kernel

theorem witness_GainArithmetic :
    (1 ≤ (1 : Gain).toNat ∧ (243 : Gain).toNat ≤ 243) ∧ 243 < (244 : Gain).toNat ∧
    (0 ≤ (0 : Sample).toInt ∧ (1048575 : Sample).toInt < 1048576) ∧
    (-1048576 ≤ (BitVec.ofInt 24 (-1048576)).toInt ∧ (BitVec.ofInt 24 (-1)).toInt < 0) ∧ (1 : Gain) ≠ 0 := by decide

/-- An event of a kind and a DRIVEN entry. -/
def mixing (hold : Hold) : State := routed (inState .locked) 1 (entry hold 0 (.steady ⟨1, 243, .normal⟩ 243) .empty .empty)

theorem witness_SumIsExactThenSaturated :
    ((mixing .zero).active.row 1).computed .arrival = true ∧ ((mixing .live).active.row 1).computed .emitted = true ∧
    (8388607 : Int) < 8388608 ∧ (-8388609 : Int) < -8388608 := by decide +kernel

/-- Slot 1 INVERTED on a sample of −8,388,608: its sum saturates. -/
def clipping : State :=
  routed (inState .locked) 1 (entry .live 0 (.steady ⟨1, 243, .inverted⟩ 243) .empty .empty)

/-- The arrival that brings the sample of `clipping`. -/
def loud : FrameCtx := State.reset.handOver .arrival none (samples [(1, 0x800000)]) []

theorem witness_ComputationOfAFrame :
    (clipping.timing.state = .locked ∧ (inState .holdover).timing.state = .holdover) ∧
    ((clipping.active.row 1).drive = .driven ∧ loud.kind = .arrival ∧
      saturate ((clipping.active.row 1).sum loud.source) ≠ (clipping.active.row 1).sum loud.source ∧
      clipping.mixer.clips.row 1 = 0) ∧
    ((clipping.active.row 1).hold = .live ∧ (clipping.active.row 2).drive = .released) ∧
    (∀ j : Slot, (clipping.active.row j).drive = .driven → j = 1) := by decide +kernel

theorem test_input_of_a_disabled_lane_gives_zero :
    let s := (inState .locked).setTiming { (inState .locked).timing with inLanes := 0b0001 }
    let c := s.handOver .arrival none (samples [(15, 7), (16, 9)]) []
    c.source 15 = 7 ∧ c.source 16 = 0 := by decide +kernel

/-- A state with results in flight. -/
def flying (st : TimingState) (held : Bool) (f : FlightSlot) : State :=
  (routed (inState st) 1 (entry .live 0 (.steady ⟨1, 243, .normal⟩ 243) .empty .empty)).setMixer
    { Mixer.reset with flight := some ⟨held, Table.tab fun _ => f⟩ }

theorem witness_OutputFrameCarries :
    let on (s : State) (i : Slot) : Prop := s.timing.state.driving = true ∧ laneOn s.timing.outLanes i = true ∧
      s.timing.format.present i = true
    (opened (mixing .live) .arrival 0 []).frame = some (event .arrival 0 []) ∧
    (1 : Slot) ≠ State.reset.link.outb ∧ ¬ on State.reset 1 ∧ ¬ on (inState .locked) 16 ∧
    ((mixing .live).mixer.flight = none ∧ on (mixing .live) 15 ∧ ((mixing .live).active.row 1).drive = .driven ∧
      ((mixing .live).active.row 2).drive = .released) ∧
    (∀ x ∈ ([.live, .repeatLast, .zero] : List Hold),
      (flying .holdover true ⟨.driven, x, some 5⟩).mixer.flight = some ⟨true, Table.tab fun _ => ⟨.driven, x, some 5⟩⟩ ∧
      on (flying .holdover true ⟨.driven, x, some 5⟩) 1) ∧
    ((flying .locked false ⟨.driven, .zero, some 5⟩).mixer.flight = some ⟨false, Table.tab fun _ => ⟨.driven, .zero, some 5⟩⟩ ∧
      on (flying .locked false ⟨.driven, .zero, some 5⟩) 1) := by
  decide +kernel

theorem witness_PlayerFrameStep :
    (∀ position ∈ [1, 2], ∀ loops ∈ ([0, 1, 2] : List (BitVec 8)),
      let c := event .arrival 0 [.player 1, .playerNotice 1]
      let s := opened (playing position loops) .arrival 0 [.player 1, .playerNotice 1]
      s.frame = some c ∧ s.atPhase c (.player 1) ∧ .playerNotice 1 ∈ c.todo ∧ c.todo.Nodup ∧ c.ended.row 1 = none ∧
      ({ c with ended := c.ended.put 1 (some (2, 3)) } : FrameCtx).ended.row 1 = some (2, 3) ∧
      (s.players.row 1).playing = true ∧ (s.players.row 1).region = some 2 ∧
      s.regions.row 2 = some ⟨100, 3, 3, 0, .playing 1⟩ ∧ (s.players.row 1).position = position ∧
      (s.players.row 1).loops = loops ∧ (s.players.row 0).playing = false) ∧
    1 + 1 < 3 ∧ 2 + 1 = 3 ∧ (0 : BitVec 8) ≠ 1 ∧ (2 : BitVec 8) ≠ 1 := by decide +kernel

theorem witness_WatchEvaluation_conditions :
    (8388609 : Sample) ≠ 0x800000 ∧
    (∀ p : WatchParams, p = ⟨.input 20, .above, 1000000, 800000, 3⟩ → p.sense = .above ∧
      p.release.toNat ≤ p.threshold.toNat ∧ (p.release.toNat ≤ 800000 ∧ 999999 < p.threshold.toNat)) ∧
    (∀ p : WatchParams, p = ⟨.input 20, .below, 800000, 1000000, 3⟩ → p.sense = .below ∧
      p.threshold.toNat ≤ p.release.toNat ∧ (p.threshold.toNat < 800001 ∧ 1000000 ≤ p.release.toNat)) ∧
    (∀ p : WatchParams, p = ⟨.input 20, .above, 0, 0, 1⟩ → p.sense = .above ∧ p.threshold = 0 ∧
      p.release = p.threshold ∧ p.release.toNat ≤ p.threshold.toNat) ∧
    ∀ p : WatchParams, p = ⟨.input 20, .below, 8388607, 8388607, 1⟩ → p.sense = .below ∧ p.threshold = 8388607 ∧
      p.release = p.threshold ∧ p.threshold.toNat ≤ p.release.toNat := by
  refine ⟨by decide, ?_, ?_, ?_, ?_⟩ <;> rintro p rfl <;> decide

/-- An arrival with some sample at IN 1.4. -/
def level (x : Sample) : FrameCtx := State.reset.handOver .arrival none (samples [(20, x)]) []

theorem witness_WatchEvaluation_states :
    let p : WatchParams := ⟨.input 20, .above, 1000000, 800000, 3⟩
    (∀ x : Sample, ((watching .clear 0).setFrame (some (level x))).frame = some (level x)) ∧
    ((watching .clear 0).watches.row 3).params = some p ∧ 1 ≤ p.duration ∧
    ((watching .clear 0).watches.row 2).state = .disarmed ∧
    (((watching .clear 0).watches.row 3).state = .clear ∧ ((watching .alerted 3).watches.row 3).state = .alerted ∧
      ((watching .pending 1).watches.row 3).run + 1 < p.duration ∧
      ((watching .pending 2).watches.row 3).run + 1 = p.duration) :=
  ⟨fun _ => rfl, by decide +kernel⟩

theorem witness_WatchEvaluation_values :
    let p : WatchParams := ⟨.input 20, .above, 1000000, 800000, 3⟩
    (p.condition (magnitude ((level 1200000).value p.subject)) = true ∧
      p.condition (magnitude ((level 900000).value p.subject)) = false) ∧
    (p.clears (magnitude ((level 790000).value p.subject)) = true ∧
      p.clears (magnitude ((level 900000).value p.subject)) = false) := by decide +kernel

/-- The capture's part of an event to come, no trigger handed over. -/
def storing (kind : FrameKind) (length : Nat) (k : Capture) : State := opened (capturing length k) kind 0 [.capture]

theorem witness_CaptureStores :
    ∀ k ∈ [onceCapture .armed 0 0, onceCapture .filling 6 6, onceCapture .filling 7 7, ringCapture .filling 3 7 8 0,
        ringCapture .post 3 3 8 2, ringCapture .post 3 4 8 1],
      let s := storing .arrival 8 k
      s.capture = k ∧ s.capture.region = some 2 ∧ s.regions.row 2 = some ⟨100, 8, 0, 0, .capturing⟩ ∧
      s.capture.subject = some (.input 20) ∧
      (∀ w, s.capture.trigger = some (.watch w) → (event .arrival 0 [.capture]).kind = .arrival →
        w ∉ (event .arrival 0 [.capture]).alerts) ∧
      s.atPhase (event .arrival 0 [.capture]) .capture := by decide +kernel

theorem witness_CaptureTakesItsTrigger :
    (∀ k ∈ [onceCapture .armed 0 0, onceCapture .filling 3 3, ringCapture .filling 0 8 8 0, ringCapture .filling 1 7 8 0,
        ringCapture .filling 2 7 8 0, ringCapture .post 3 4 8 1],
      ∀ length ∈ [1, 8],
      let s := capturing length k
      s.capture = k ∧ s.capture.region = some 2 ∧ s.regions.row 2 = some ⟨100, length, 0, 0, .capturing⟩ ∧
      s.capture.subject = some (.input 20) ∧ s.capture.trigger = some (.watch 3)) ∧
    (event .arrival 0 []).kind = .arrival ∧ (3 : WatchNo) ∈ ({ event .arrival 0 [] with alerts := [3] } : FrameCtx).alerts := by
  decide +kernel

/-! ### Requests: one tag that is taken at once in every state used, and bodies that are read -/

theorem witness_takesAtOnce :
    ∀ s ∈ [State.reset, withRegion readyRegion, capturing 8 (ringCapture .filling 3 3 8 0), playing 2 1, repatch,
        stillMoving, watching .alerted 3, ramping 1 2],
      s.takesAtOnce 1 ∧ (req 1 []).hdrReserved = false := by decide +kernel

theorem witness_CommonChecksRefuse :
    State.reset.takesAtOnce 1 ∧ 1 ≤ (1 : Code).toNat ∧ (32 : Code).toNat ≤ 32 ∧ (⟨1, true, []⟩ : Req).hdrReserved = true ∧
    (req 1 [0]).body ≠ [] ∧ (req 1 []).body.length ≠ 1 ∧ (req 1 [0]).body.length ≠ 2 ∧
    (req 1 [0, 0, 0]).body.length ≠ 4 ∧
    ((req 1 [0x000008]).body[0]? = some 0x000008 ∧ (0x000008 : Payload) &&& 0x000FF8 ≠ 0) := by decide +kernel

theorem witness_CommonChecksRefuse_of_values :
    4 < (fld (5 : Payload) 0 3).toNat ∧ fld (0x018000 : Payload) 15 2 = 3 ∧ 66 ≤ (fld (0x840000 : Payload) 17 7).toNat ∧
    48 ≤ (fld (48 : Payload) 0 6).toNat ∧ fld (3 : Payload) 0 2 = 3 ∧
    (fld (15 : Payload) 0 5 ≠ 8 ∧ fld (15 : Payload) 0 5 ≠ 16) ∧
    ((0x040001 : Payload).getLsbD 0 = true ∧ fld (0x040001 : Payload) 18 6 ≠ 0) ∧
    ((0x010000 : Payload).getLsbD 16 = true ∧ fld (0x010000 : Payload) 0 16 = 0) ∧
    ((fld (0x060000 : Payload) 17 4).toNat ∉ [1, 2, 4, 8] ∧ 64 < (fld (0x010400 : Payload) 10 7).toNat) ∧
    8192 < (fld (8191 : Payload) 0 13).toNat + (fld (2 : Payload) 0 14).toNat ∧
    (fld (0x020800 : Payload) 16 2 = 2 ∧ 2 ≤ (fld (0x020800 : Payload) 10 6).toNat) ∧
    (2 ≤ (fld (0x000200 : Payload) 8 2).toNat ∧ 2 ≤ (fld (0x000080 : Payload) 6 2).toNat) ∧
    (fld (4 : Payload) 6 2 = 0 ∧ fld (4 : Payload) 2 4 ≠ 0) ∧ 8192 < (fld (8193 : Payload) 0 14).toNat ∧
    4096 < (fld (4097 : Payload) 0 13).toNat ∧
    ((0x100 : Payload).getLsbD 8 = true ∧ (fld (1 : Payload) 0 23).toNat < (fld (2 : Payload) 0 23).toNat) := by decide

theorem witness_RequestBodiesReadBack :
    ((65 : Source).toNat ≤ 65 ∧ 66 ≤ (66 : Source).toNat) ∧ ([⟨65, 255, .inverted⟩] : List Contrib).length ≤ 4 ∧
    (1 ≤ [(0 : Sample)].length ∧ (List.replicate 47 (0 : Sample)).length ≤ 47) ∧ (8192 : BitVec 14).toNat ≤ 8192 ∧
    (1 ≤ (1 : BitVec 13).toNat ∧ (4096 : BitVec 13).toNat ≤ 4096) ∧
    (5 : BitVec 23).toNat ≤ (5 : BitVec 23).toNat := by decide

theorem test_request_head_words_of_the_table :
    readStageRoute [0xFCB001, 0x83FF00] = some ⟨63, .released, .repeatLast, 3, [⟨65, 255, .inverted⟩]⟩ ∧
    readWriteRegion [0xFFFF01, 9] = some (7, 8191, [9]) ∧
    readScope [2] = some .full := by decide +kernel

theorem witness_ReadRequestsChangeNothing :
    readReadRoute [0xFC0008] = some (63, true) ∧ readReadRoute [0] = some (0, false) ∧
    readReadRegion [0x400102] = some (2, 1, 2) ∧ readReadRegion [0x400103] = some (2, 1, 3) ∧
    (State.reset.regions.row 2 = none ∧ readyRegion.valid < 1 + 3 ∧
      (capturing 8 (ringCapture .filling 3 3 8 0)).regions.row 2 = some ⟨100, 8, 0, 0, .capturing⟩) ∧
    ((withRegion readyRegion).regions.row 2 = some readyRegion ∧ readyRegion.use ≠ .capturing ∧
      1 + 2 ≤ readyRegion.valid) := by decide +kernel

theorem witness_RecordsCarryTheirFields :
    ([.done, .busy] : List Status)[1]? = some .busy ∧
    ([2, 63] : List Slot)[1]? = some 63 ∧ ([2, 63] : List Slot).length ≤ 2 := by decide

theorem witness_CountersAnswerThenClear :
    readClear [0] = some false ∧ readClear [1] = some true ∧ stillMoving.commit = some ⟨14, .rampsIdle, 50, 49⟩ := by
  decide +kernel

theorem witness_LanesAndMaskAreReplaced :
    readLanes [0x000011] = some (1, 1) ∧ readLanes [0x00001E] = some (1, 14) ∧
    (laneOn 1 State.reset.link.inb = true ∧ laneOn 1 State.reset.link.outb = true ∧
      laneOn 14 State.reset.link.outb = false) ∧ readMask [0xFF] = some 0xFF := by decide +kernel

theorem witness_FencedRequestsWait :
    readFormat [0x000208] = some ⟨false, false, .activeLow⟩ ∧
    ((⟨false, false, .activeLow⟩ : Format).present State.reset.link.inb = true ∧
      (⟨false, false, .activeLow⟩ : Format).present 8 = false) ∧
    readMoveLink [0x000304] = some (3, 4) ∧
    (State.reset.timing.format.present 3 = true ∧ laneOn State.reset.timing.outLanes 4 = true ∧
      (∀ i : Slot, (State.reset.staged.row i).list = []) ∧
      (∀ (i : Slot) (k : BitVec 2), (State.reset.active.row i).pos.row k = .empty) ∧
      (∀ w : WatchNo, (State.reset.watches.row w).params = none) ∧ State.reset.capture.state = .idle ∧
      (State.reset.staged.row 4).drive = .released ∧ (State.reset.active.row 4).drive = .released) ∧
    laneOn State.reset.timing.outLanes 16 = false ∧
    -- what keeps a slot from being free: a staged record, an active position, a drive, a watch, a capture
    ((repatch.staged.row 18).list = [⟨0, 227, .normal⟩, ⟨3, 231, .normal⟩] ∧ (3 : Slot) ≠ repatch.link.inb) ∧
    (((mixing .live).active.row 1).pos.row 0 = .steady ⟨1, 243, .normal⟩ 243 ∧
      ((mixing .live).active.row 1).drive = .driven) ∧
    ((watching .clear 0).watches.row 3).params = some ⟨.input 20, .above, 1000000, 800000, 3⟩ ∧
    (capturing 8 (ringCapture .filling 3 3 8 0)).capture.subject = some (.input 20) := by decide +kernel

theorem witness_FencedRequestsWait_behind_a_fence :
    let s := opened ((inState .locked).setCmdq [waiting]) .arrival 0 [.drain]
    (s.frame = some (event .arrival 0 [.drain]) ∧ s.executor = .idle ∧ s.cmdq = waiting :: []) ∧
    (s.setExecutor (.fenced 5 .resetFull false)).executor ≠ .idle ∧ (s.setCmdq []).cmdq = [] := by decide +kernel

theorem witness_FencedRequestsWait_with_an_end_to_post :
    let c : FrameCtx := { event .arrival 0 [] with ended := Table.tab fun _ => some (2, 1) }
    let s := (inState .locked).setFrame (some c)
    s.frame = some c ∧ s.mayTake 1 ∧ ¬ s.endsPosted ∧ (inState .locked).endsPosted ∧
    (opened (inState .locked) .arrival 0 []).endsPosted ∧ (1 : Nat) ≤ (28 : Code).toNat ∧ (28 : Code).toNat ≤ 32 := by
  decide +kernel

theorem witness_ResetRoutingClearsTheRouting :
    State.reset.takesAtOnce 1 ∧ State.reset.commit = none ∧ stillMoving.takesAtOnce 1 ∧
    stillMoving.commit = some ⟨14, .rampsIdle, 50, 49⟩ ∧ (1 : Tag) ≠ 14 := by decide +kernel

theorem witness_StagingRequests :
    readStageRoute [0x4AB001, 0x0BC700] = some ⟨18, .driven, .repeatLast, 3, [⟨5, 227, .inverted⟩]⟩ ∧
    ([5] : List Source).Nodup ∧ ¬ ([5, 5] : List Source).Nodup ∧
    readStageRoute [0x000002, 0x0BC700, 0x0BC700] =
      some ⟨0, .released, .live, 0, [⟨5, 227, .inverted⟩, ⟨5, 227, .inverted⟩]⟩ ∧
    (5 : Source) ≠ State.reset.link.inb.setWidth 7 ∧ (7 : Source) = State.reset.link.inb.setWidth 7 ∧
    readStageClear [0xFC0000] = some (some 63) ∧ readStageClear [1] = some none ∧
    State.reset.commit = none ∧ stillMoving.commit.isSome = true := by decide +kernel

theorem witness_CommitIsDeferredOrCancelled :
    readCommit [0x01FFFF] = some (.rampsIdle, 65535) ∧ readCommit [0] = some (.none, 0) ∧
    State.reset.commit = none ∧ stillMoving.commit.isSome = true ∧ (14 : Tag) ≠ (req 1 []).tag := by decide +kernel

theorem witness_SetGainActsOnOnePosition :
    readSetGain [0x48F300] = some (18, 0, 243) ∧ readSetGain [0x49C800] = some (18, 1, 200) ∧
    (repatch.active.row 18).pos.row 0 = .steady ⟨0, 243, .normal⟩ 243 ∧
    (repatch.active.row 18).pos.row 1 = .steady ⟨2, 231, .normal⟩ 231 ∧ (repatch.active.row 18).pos.row 2 = .empty ∧
    ((repatch.groups.row 3).interval ≠ 0 ∧ (repatch.groups.row 3).muted = false) ∧
    (∀ h : GroupNo, (State.reset.groups.row h).moving = movers h State.reset.active) := by decide +kernel

theorem witness_SetGainActsOnOnePosition_while_draining :
    let s := routed repatch 18 (entry .live 3 (.draining ⟨0, 243, .normal⟩ 9 (some ⟨3, 231, .normal⟩))
      (.draining ⟨2, 231, .normal⟩ 9 none) (.steady ⟨4, 243, .normal⟩ 0))
    s.takesAtOnce 1 ∧ (s.active.row 18).pos.row 0 = .draining ⟨0, 243, .normal⟩ 9 (some ⟨3, 231, .normal⟩) ∧
    (s.active.row 18).pos.row 1 = .draining ⟨2, 231, .normal⟩ 9 none ∧
    ((s.setGroups (s.groups.put 3 ⟨8, 0, true, 0, 0⟩)).groups.row 3).interval = 0 := by decide +kernel

theorem witness_GroupRequests :
    readGroupMute [0x600200] = some (3, true) ∧ readSetGroup [0x700000] = some (3, 8, 0) ∧
    readSetGroup [0x650000] = some (3, 2, 64) ∧
    (0 < ((ramping 1 2).groups.row 3).moving ∧ ((ramping 0 0).groups.row 3).moving = 0) ∧
    (((ramping 1 2).active.row 18).group = 3 ∧ ((ramping 1 2).active.row 17).group ≠ 3) := by decide +kernel

theorem witness_RegionRequests :
    readDefineRegion [0x601FFF, 1] = some (3, 8191, 1) ∧
    ((withRegion readyRegion).regions.row 3 = none ∧ (withRegion readyRegion).regions.row 2 = some readyRegion ∧
      8191 < readyRegion.base + readyRegion.length ∧ readyRegion.base < 8191 + 1) ∧
    (readRegionId [0x400000] = some 2 ∧ readyRegion.use = .ready) ∧
    ((playing 2 1).regions.row 2 = some ⟨100, 3, 3, 0, .playing 1⟩ ∧ RegionUse.playing 1 ≠ .ready) ∧
    (readWriteRegion [0x400602, 21, 22] = some (2, 6, [21, 22]) ∧ readWriteRegion [0x400702, 21, 22] = some (2, 7, [21, 22]) ∧
      6 + 2 ≤ readyRegion.length ∧ readyRegion.length < 7 + 2 ∧ readyRegion.base + readyRegion.length ≤ 8192) := by
  decide +kernel

theorem witness_CaptureRequests :
    readStartCapture [0x08514C, 8] = some ⟨2, .input 20, .ring, .watch 3, 8⟩ ∧
    readStartCapture [0x08514C, 9] = some ⟨2, .input 20, .ring, .watch 3, 9⟩ ∧
    readStartCapture [0x081C00, 0] = some ⟨2, .input 7, .once, .immediate, 0⟩ ∧
    ((withRegion readyRegion).capture.state = .idle ∧ (withRegion readyRegion).regions.row 2 = some readyRegion ∧
      8 ≤ readyRegion.length ∧ readyRegion.length < 9 ∧ State.reset.regions.row 2 = none) ∧
    (.input 20 ≠ Subject.input State.reset.link.inb ∧ .input 20 ≠ Subject.output State.reset.link.outb ∧
      .input 7 = Subject.input State.reset.link.inb) ∧
    ((capturing 8 (ringCapture .filling 3 3 8 0)).capture.state ≠ .idle ∧
      (capturing 8 (ringCapture .filling 3 3 8 0)).capture.region = some 2 ∧
      (capturing 8 (ringCapture .filling 3 3 8 0)).regions.row 2 = some ⟨100, 8, 0, 0, .capturing⟩) := by decide +kernel

theorem witness_PlayerRequests :
    readStartPlayer [0x880002] = some (1, 2, 2) ∧ readPlayerNo [0x800000] = some 1 ∧
    (((playing 2 1).players.row 1).playing = true ∧ ((playing 2 1).players.row 1).region = some 2 ∧
      (playing 2 1).regions.row 2 = some ⟨100, 3, 3, 0, .playing 1⟩) ∧
    (((withRegion readyRegion).players.row 1).playing = false ∧ State.reset.regions.row 2 = none ∧
      readyRegion.use ≠ .capturing ∧ readyRegion.valid ≠ 0) ∧
    ((⟨100, 3, 0, 0, .capturing⟩ : Region).use = .capturing ∧ (⟨100, 3, 0, 0, .ready⟩ : Region).valid = 0) := by
  decide +kernel

theorem witness_PlayerRequests_of_an_idle_player :
    let s := (withRegion readyRegion).setPlayers (State.reset.players.put 1 ⟨false, some 2, 1, 2, 3, 0⟩)
    s.takesAtOnce 1 ∧ (s.players.row 1).playing = false ∧ (s.players.row 1).region = some 2 := by decide +kernel

theorem witness_WatchRequests :
    readSetWatch [0x305000, 1000000, 800000, 4096] = some (3, ⟨.input 20, .above, 1000000, 800000, 4096⟩) ∧
    readSetWatch [0x311D00, 5, 5, 1] = some (3, ⟨.output 7, .below, 5, 5, 1⟩) ∧
    (Subject.output 7 = .output State.reset.link.outb ∧ Subject.input 20 ≠ .input State.reset.link.inb) ∧
    readWatchNo [0x300000] = some 3 ∧
    ((capturing 8 (ringCapture .filling 3 3 8 0)).capture.trigger = some (.watch 3) ∧
      (capturing 8 (ringCapture .filling 3 3 8 0)).capture.state = .filling ∧
      (capturing 8 (ringCapture .filling 3 3 8 0)).capture.mode = some .ring ∧
      State.reset.capture.trigger = none) := by decide +kernel

end Sys2Proof.Tests
end

section
/-! Running an event: one part taken, the run stopped, the run whole; what the parts of a given list keep. -/

namespace Sys2Proof.Machine

/-! ## One part after another -/

/-- The part in front is taken where the run goes on. -/
theorem State.runWhile_take {go : List Phase → Bool} {n : Nat} {s : State} {c : FrameCtx} {p : Phase}
    {rest : List Phase} (hs : s.frame = some c) (hc : c.todo = p :: rest) (hg : go (p :: rest) = true) :
    s.runWhile go (n + 1) = ((s.setFrame (some { c with todo := rest })).runPhase p).runWhile go n := by
  simp only [State.runWhile, hs, hc, hg, if_true]

/-- The same of a record that is written out. -/
theorem State.runWhile_front {go : List Phase → Bool} {n : Nat} {s : State} {c : FrameCtx} {p : Phase}
    {rest : List Phase} (hg : go (p :: rest) = true) :
    (s.setFrame (some { c with todo := p :: rest })).runWhile go (n + 1) =
      ((s.setFrame (some { c with todo := rest })).runPhase p).runWhile go n := by
  simp only [State.runWhile, State.setFrame_frame, hg, if_true]
  rfl

/-- The run stops before a part that is kept open. -/
theorem State.runWhile_stop {go : List Phase → Bool} {n : Nat} {s : State} {c : FrameCtx} {p : Phase}
    {rest : List Phase} (hs : s.frame = some c) (hc : c.todo = p :: rest) (hg : go (p :: rest) = false) :
    s.runWhile go n = s := by
  cases n with
  | zero => rfl
  | succ n => simp [State.runWhile, hs, hc, hg]

/-- An event with no part left is over. -/
theorem State.runWhile_over {go : List Phase → Bool} {n : Nat} {s : State} {c : FrameCtx} (hs : s.frame = some c)
    (hc : c.todo = []) : s.runWhile go (n + 1) = s.setFrame none := by
  simp only [State.runWhile, hs, hc]

/-- A run asks only whether it goes on with a part in front. -/
theorem State.runWhile_congr {go go' : List Phase → Bool} (h : ∀ p rest, go (p :: rest) = go' (p :: rest)) :
    ∀ (n : Nat) (s : State), s.runWhile go n = s.runWhile go' n := by
  intro n
  induction n with
  | zero => exact fun _ => rfl
  | succ n ih => intro s; simp only [State.runWhile, h, ih]

/-- A part taken leaves no more parts to come than the others. -/
theorem State.openPhases_runPhase (s : State) (c : FrameCtx) (rest : List Phase) (p : Phase) :
    ((s.setFrame (some { c with todo := rest })).runPhase p).openPhases ≤ rest.length :=
  (State.openPhases_updates rest.length).phase _ p le_rfl

/-- How long a run may be does not matter once it is long enough for every part to come. -/
theorem State.runWhile_of_lt {go : List Phase → Bool} : ∀ (n m : Nat) (s : State), s.openPhases < n →
    s.openPhases < m → s.runWhile go n = s.runWhile go m := by
  intro n
  induction n with
  | zero => intro m s h; omega
  | succ n ih =>
    intro m s hn hm
    obtain ⟨m, rfl⟩ : ∃ k, m = k + 1 := ⟨m - 1, by omega⟩
    simp only [State.runWhile]
    split
    · rfl
    · rename_i c hc
      split
      · rfl
      · rename_i p rest hp
        simp only [State.openPhases, hc, hp, List.length_cons] at hn hm
        have hle := s.openPhases_runPhase c rest p
        split
        · exact ih _ _ (by omega) (by omega)
        · rfl

/-- A run that stops nowhere takes all that is open. -/
theorem State.runWhile_eq_finish {go : List Phase → Bool} (hg : ∀ p rest, go (p :: rest) = true) {n : Nat} {s : State}
    (h : s.openPhases < n) : s.runWhile go n = s.finish := by
  rw [State.runWhile_congr (go' := fun _ => true) hg, State.finish]
  exact State.runWhile_of_lt _ _ _ h (Nat.lt_succ_self _)

/-- What is open is taken part by part. -/
theorem State.finish_take {s : State} {c : FrameCtx} {p : Phase} {rest : List Phase} (hs : s.frame = some c)
    (hc : c.todo = p :: rest) : s.finish = ((s.setFrame (some { c with todo := rest })).runPhase p).finish := by
  have hlen : s.openPhases = rest.length + 1 := by simp only [State.openPhases, hs, hc, List.length_cons]
  rw [State.finish, hlen, State.runWhile_take hs hc rfl]
  exact State.runWhile_eq_finish (fun _ _ => rfl) (Nat.lt_succ_of_le (s.openPhases_runPhase c rest p))

/-- An event with no part left is over once it is finished. -/
theorem State.finish_over {s : State} {c : FrameCtx} (hs : s.frame = some c) (hc : c.todo = []) :
    s.finish = s.setFrame none := State.runWhile_over hs hc

/-- The same of a record that is written out. -/
theorem State.finish_front (s : State) (c : FrameCtx) (p : Phase) (rest : List Phase) :
    (s.setFrame (some { c with todo := p :: rest })).finish =
      ((s.setFrame (some { c with todo := rest })).runPhase p).finish :=
  State.finish_take (c := { c with todo := p :: rest }) rfl rfl

/-- The same of a record that is written out and has no part left. -/
theorem State.finish_nil (s : State) (c : FrameCtx) :
    (s.setFrame (some { c with todo := [] })).finish = s.setFrame none :=
  State.finish_over (c := { c with todo := [] }) rfl rfl

/-- An open event is over where no part is left of it, and stays as it is elsewhere. -/
theorem State.closeEvent_eq {s : State} {c : FrameCtx} (hs : s.frame = some c) :
    s.closeEvent = s.setFrame c.left := by
  simp only [State.closeEvent, State.openPhases, hs, List.length_eq_zero_iff, FrameCtx.left]
  split
  · rfl
  · rw [← hs]; rfl

/-! ## A whole event -/

/-- A timing event opens with what it hands over and runs on from there. -/
theorem State.event_eq (s : State) (kind : FrameKind) (entry : Option Entry) (inp : FrameIn) (phases : List Phase)
    (sch : Sched) : s.event kind entry inp phases sch =
      (s.setFrame (some (s.handOver kind entry inp (sch.order phases)))).runWhile
        (fun todo => decide (sch.keep < todo.length)) (phases.length + 1) := rfl

/-- An event of which nothing is kept open is finished. -/
theorem State.event_whole (s : State) (kind : FrameKind) (entry : Option Entry) (inp : FrameIn) (phases : List Phase)
    (first : List Phase) : s.event kind entry inp phases ⟨first, 0⟩ =
      (s.setFrame (some (s.handOver kind entry inp (Sched.order ⟨first, 0⟩ phases)))).finish := by
  rw [State.event_eq]
  refine State.runWhile_eq_finish (fun p rest => by simp) ?_
  simp [State.openPhases, State.handOver, (Sched.order_perm ⟨first, 0⟩ phases).length_eq]

/-- With no order asked for, the parts are taken in the standing order. -/
@[simp] theorem order_standing (phases : List Phase) (keep : Nat) : Sched.order ⟨[], keep⟩ phases = phases := rfl

/-- An event without parts is over at once. -/
theorem State.event_nil (s : State) (kind : FrameKind) (entry : Option Entry) (inp : FrameIn) (sch : Sched) :
    s.event kind entry inp [] sch = s.setFrame none := by
  rw [State.event_eq, State.runWhile_over (State.setFrame_frame _ _) (List.Perm.eq_nil (sch.order_perm []))]
  rfl

/-! ## What the parts of an event keep -/

/-- No part of a timing event brings a part that was not to come. -/
theorem State.todo_updates (l : List Phase) : PhaseUpdates fun s => ∀ c ∈ s.frame, c.todo ⊆ l where
  staged _ _ h := h
  active _ _ h := h
  commit _ _ h := h
  groups _ _ h := h
  replies _ _ h := h
  notices _ _ h := h
  mixer _ _ _ h := h
  regions _ _ h := h
  capture _ _ h := h
  players _ _ h := h
  watches _ _ h := h
  skip s g h := by
    intro c hc
    obtain ⟨d, hd, rfl⟩ := Option.map_eq_some_iff.mp hc
    exact fun p hp => h d hd (List.mem_of_mem_filter hp)
  counters _ h := h
  lanes _ _ _ h := h
  memory _ _ _ h := h
  executor _ _ h := h
  cmdq _ _ h := h
  parser _ _ h := h
  timing _ _ _ h := h
  link _ _ h := h
  composer _ _ h := h
  mixing _ _ h := h
  pins _ _ h := h
  record s f e h := by
    intro c hc
    obtain ⟨d, hd, rfl⟩ := Option.map_eq_some_iff.mp hc
    rw [e]
    exact h d hd

/-- What the event's own record and the parts of a list keep, a run of those parts keeps. -/
theorem State.runWhile_keeps_of {P : State → Prop} {l : List Phase} (hf : ∀ s f, P s → P (s.setFrame f))
    (hp : ∀ s, ∀ p ∈ l, P s → P (s.runPhase p)) (go : List Phase → Bool) :
    ∀ (n : Nat) (s : State), (∀ c ∈ s.frame, c.todo ⊆ l) → P s → P (s.runWhile go n) := by
  intro n
  induction n with
  | zero => exact fun _ _ hs => hs
  | succ n ih =>
    intro s hl hs
    simp only [State.runWhile]
    split
    · exact hs
    · rename_i c hc
      split
      · exact hf _ _ hs
      · rename_i p rest hq
        have hsub := hl c hc
        rw [hq] at hsub
        split
        · refine ih _ ((State.todo_updates l).phase _ p ?_) (hp _ p (hsub (by simp)) (hf _ _ hs))
          intro d hd
          obtain rfl := Option.some.inj hd
          exact fun q hq => hsub (by simp [hq])
        · exact hs

/-- What its parts keep, an event keeps. -/
theorem State.event_keeps_of {P : State → Prop} {phases : List Phase} (hf : ∀ s f, P s → P (s.setFrame f))
    (hp : ∀ s, ∀ p ∈ phases, P s → P (s.runPhase p)) {s : State} (kind : FrameKind) (entry : Option Entry)
    (inp : FrameIn) (sch : Sched) (hs : P s) : P (s.event kind entry inp phases sch) := by
  rw [State.event_eq]
  refine State.runWhile_keeps_of hf hp _ _ _ ?_ (hf _ _ hs)
  intro d hd
  obtain rfl := Option.some.inj hd
  exact (sch.order_perm phases).subset

end Sys2Proof.Machine
end

section
/-! What each command can do, said once; with it the two laws of the timing unit's own record. -/

namespace Sys2Proof.Machine

/-! ## Losses of lock -/

/-- The restart mark, as the composer's own record says it (R32). -/
theorem State.markRestart_eq (s : State) : s.markRestart = s.setComposer s.composer.cut := by
  simp only [State.markRestart, Composer.cut]
  cases s.composer.message <;> rfl

/-- An abandonment that also clears the parser's two runs (R29, R30, R37). -/
theorem State.abandon_clear (s : State) (reason : Reason) (frame : FrameNo) :
    (s.abandon reason frame).setParser { (s.abandon reason frame).parser with gap := 0, breakRun := 0 } =
      (s.setParser s.parser.lost).setNotices (s.parser.lostNotice reason frame s.notices) := by
  simp only [State.abandon, Parser.lost, Parser.lostNotice]
  cases hrx : s.parser.rx with
  | none => simp only [hrx, if_true]; rfl
  | some m => simp only [reduceCtorEq, if_false]; rfl

/-- The parser at a state entry (R29, R30). -/
theorem State.parserLost_eq (s : State) (frame : FrameNo) :
    s.parserLost frame = (s.setParser s.parser.lost).setNotices (s.parser.lostNotice .lockLost frame s.notices) :=
  s.abandon_clear .lockLost frame

/-! ## What a command can do -/

/-- What a command of the timing unit makes of the machine before the parts of its event are taken (1.2): the state in
which it falls, and the record it leaves. -/
inductive State.Opens (s : State) : Instr → State → Prop
  | searchEdge : s.timing.state = .search → s.timing.clockAbsent = false →
      Opens s .searchEdge (s.setTiming s.timing.searchEdge)
  | confirming (spacing : Nat) (sch : Sched) (n : Nat) : s.timing.state = .confirm → n = 1 ∨ n = 2 →
      Opens s (.confirmEdge spacing sch) (s.setTiming { s.timing with confirmCount := some n, sinceRef := some 0 })
  | confirmed (spacing : Nat) (sch : Sched) : s.timing.state = .confirm →
      Opens s (.confirmEdge spacing sch) (s.setTiming s.timing.lock)
  | frameArrival (inp : FrameIn) (sch : Sched) : s.timing.state = .locked →
      Opens s (.frameArrival inp sch) (s.setTiming { s.timing.advance with sinceRef := some 0 })
  | earlyEdge (pos : Nat) (sch : Sched) : s.timing.state = .locked →
      Opens s (.earlyEdge pos sch) (s.setTiming { s.timing.loseLock with sinceRef := some pos }).markRestart
  | fsyncMissing (inp : FrameIn) (sch : Sched) : s.timing.state = .locked →
      Opens s (.fsyncMissing inp sch) (s.setTiming { s.timing.loseLock.advance with
        holdoverCount := 1, sinceRef := some s.timing.format.spacing }).markRestart
  | emittedFrame (edge : Bool) (inp : FrameIn) (sch : Sched) : s.timing.state = .holdover →
      s.timing.holdoverCount < Config.holdoverFrames →
      Opens s (.emittedFrame edge inp sch) (s.setTiming { s.timing.advance with
        holdoverCount := s.timing.holdoverCount + 1, returnRun := edge
        sinceRef := some (if edge then 0 else s.timing.nextPoint) })
  | holdoverReturn (inp : FrameIn) (sch : Sched) : s.timing.state = .holdover →
      Opens s (.holdoverReturn inp sch) (s.setTiming s.timing.lock.advance)
  | offPositionEdge (pos : Nat) (sch : Sched) : s.timing.state = .holdover →
      Opens s (.offPositionEdge pos sch) (s.setTiming s.timing.toConfirm).releaseLanes
  | holdoverExpired (sch : Sched) : s.timing.state = .holdover → Opens s (.holdoverExpired false sch) s.enterSearch
  | expiredAtEdge (sch : Sched) : s.timing.state = .holdover →
      Opens s (.holdoverExpired true sch) (s.enterSearch.setTiming s.enterSearch.timing.searchEdge)
  | absentInSearch (sch : Sched) : s.timing.state = .search →
      Opens s (.clockAbsent sch) (s.setTiming { s.timing with clockAbsent := true })
  | clockAbsent (sch : Sched) : s.timing.state ≠ .search →
      Opens s (.clockAbsent sch) (s.setTiming s.timing.loseClock).enterSearch
  | bclkReturn : Opens s .bclkReturn (s.setTiming { s.timing with clockAbsent := false })

/-- What can become of a command: nothing, a pin reset, a new record of the timing unit with or without an event, parts
of the open event, or a delivered request. -/
inductive State.Completes (s : State) : Instr → State → Prop
  | idle (i : Instr) : Completes s i s
  | pinReset : Completes s .pinReset s.pinReset
  | entered {i : Instr} {u : State} : s.finish.Opens i u → Completes s i u
  | event {i : Instr} {u : State} (kind : FrameKind) (entry : Option Entry) (inp : FrameIn) (phases : List Phase)
      (sch : Sched) : s.finish.Opens i u → Completes s i (u.event kind entry inp phases sch)
  | part (i : Instr) (p : Phase) (due : State → FrameCtx → Bool) : Completes s i (s.takeDue p due)
  | parts (i : Instr) (p q : Phase) (due due' : State → FrameCtx → Bool) :
      Completes s i ((s.takeDue p due).takeDue q due')
  | request (i : Instr) (code : Code) (r : Req) : Completes s i (s.deliver code r)

/-- Every command completes in one of these ways. -/
theorem exec_completes {i : Instr} {s t : State} (h : exec i s = .next t) : s.Completes i t := by
  cases i <;> simp only [exec] at h
  case pinReset => cases h; exact .pinReset
  case searchEdge =>
    simp only [execSearchEdge] at h
    split at h <;> cases h
    case isTrue hs => exact .entered (.searchEdge hs.1 hs.2)
    case isFalse => exact .idle _
  case confirmEdge =>
    simp only [execConfirmEdge] at h
    split at h
    case isFalse => cases h; exact .idle _
    case isTrue hs =>
      (repeat' split at h) <;> cases h
      · exact .event _ _ _ _ _ (.confirmed _ _ hs)
      · exact .entered (.confirming _ _ 2 hs (.inr rfl))
      · exact .entered (.confirming _ _ 1 hs (.inl rfl))
  case frameArrival =>
    simp only [execFrameArrival] at h
    split at h <;> cases h
    case isTrue hs => exact .event _ _ _ _ _ (.frameArrival _ _ hs)
    case isFalse => exact .idle _
  case earlyEdge =>
    simp only [execEarlyEdge] at h
    split at h <;> cases h
    case isTrue hs => exact .event _ _ _ _ _ (.earlyEdge _ _ hs.1)
    case isFalse => exact .idle _
  case fsyncMissing =>
    simp only [execFsyncMissing] at h
    split at h <;> cases h
    case isTrue hs => exact .event _ _ _ _ _ (.fsyncMissing _ _ hs)
    case isFalse => exact .idle _
  case emittedFrame =>
    simp only [execEmittedFrame] at h
    split at h <;> cases h
    case isTrue hs => exact .event _ _ _ _ _ (.emittedFrame _ _ _ hs.1 hs.2.1)
    case isFalse => exact .idle _
  case holdoverReturn =>
    simp only [execHoldoverReturn] at h
    split at h <;> cases h
    case isTrue hs => exact .event _ _ _ _ _ (.holdoverReturn _ _ hs.1)
    case isFalse => exact .idle _
  case offPositionEdge =>
    simp only [execOffPositionEdge] at h
    split at h <;> cases h
    case isTrue hs => exact .event _ _ _ _ _ (.offPositionEdge _ _ hs.1)
    case isFalse => exact .idle _
  case holdoverExpired edge _ =>
    simp only [execHoldoverExpired] at h
    split at h <;> cases h
    case isTrue hs =>
      cases edge
      · exact .event _ _ _ _ _ (.holdoverExpired _ hs.1)
      · exact .event _ _ _ _ _ (.expiredAtEdge _ hs.1)
    case isFalse => exact .idle _
  case clockAbsent =>
    simp only [execClockAbsent] at h
    (repeat' split at h) <;> cases h
    · exact .idle _
    · exact .entered (.absentInSearch _ ‹_›)
    · exact .event _ _ _ _ _ (.clockAbsent _ ‹_›)
  case bclkReturn =>
    simp only [execBclkReturn] at h
    split at h <;> cases h
    · exact .entered .bclkReturn
    · exact .idle _
  case playerNaturalEnd => cases h; exact .parts _ _ _ _ _
  all_goals first
    | (cases h; exact .part _ _ _)
    | (cases h; exact .request _ _ _)

/-! ## The frame number -/

/-- The four commands that declare a frame (R8, R9, R10). -/
abbrev declaresFrame (i : Instr) : Prop :=
  (∃ inp sch, i = .frameArrival inp sch) ∨ (∃ inp sch, i = .fsyncMissing inp sch) ∨
    (∃ edge inp sch, i = .emittedFrame edge inp sch) ∨ ∃ inp sch, i = .holdoverReturn inp sch

/-- The timing unit's record rises by one frame where a frame is declared, and keeps its number elsewhere (R12). -/
theorem State.Opens.now {s u : State} {i : Instr} (h : s.Opens i u) :
    u.now = s.now ∨ u.now = s.now + 1 ∧ declaresFrame i := by
  cases h with
  | frameArrival => exact .inr ⟨rfl, .inl ⟨_, _, rfl⟩⟩
  | fsyncMissing => exact .inr ⟨by rw [State.markRestart_eq]; rfl, .inr (.inl ⟨_, _, rfl⟩)⟩
  | emittedFrame => exact .inr ⟨rfl, .inr (.inr (.inl ⟨_, _, _, rfl⟩))⟩
  | holdoverReturn => exact .inr ⟨rfl, .inr (.inr (.inr ⟨_, _, rfl⟩))⟩
  | earlyEdge => exact .inl (by rw [State.markRestart_eq]; rfl)
  | holdoverExpired => exact .inl (by rw [State.enterSearch, State.markRestart_eq]; rfl)
  | expiredAtEdge => exact .inl (by rw [State.enterSearch, State.markRestart_eq]; rfl)
  | clockAbsent => exact .inl (by rw [State.enterSearch, State.markRestart_eq]; rfl)
  | _ => exact .inl rfl

/-- A command for a part of the open event keeps the frame number (R12). -/
theorem State.now_takeDue (s : State) (p : Phase) (due : State → FrameCtx → Bool) : (s.takeDue p due).now = s.now :=
  State.takeDue_keeps (P := fun u => u.now = s.now) (fun _ _ h => h) (fun u q h => (State.now_updates _).phase u q h)
    p due rfl

/-- Settles O12: a command changes the frame number only in the timing unit's record or by a pin reset. -/
theorem frameNumberCountsDeclaredFrames : Obligations.FrameNumberCountsDeclaredFrames := by
  intro i s t h
  have opened : ∀ {u}, s.finish.Opens i u → u.now = s.now ∨ u.now = s.now + 1 ∧ declaresFrame i :=
    fun ho => s.now_finish ▸ ho.now
  cases exec_completes h with
  | idle => exact .inl rfl
  | pinReset => exact .inr (.inr ⟨rfl, rfl⟩)
  | entered ho => exact (opened ho).imp id .inl
  | event kind entry inp phases sch ho =>
    rw [State.now_event]
    exact (opened ho).imp id .inl
  | part i p due => exact .inl (s.now_takeDue p due)
  | parts i p q due due' => exact .inl (((s.takeDue p due).now_takeDue q due').trans (s.now_takeDue p due))
  | request i code r => exact .inl ((State.now_updates s.now).deliver code r rfl)

end Sys2Proof.Machine
end

section
/-! The law of the timing unit (R5, R7, R10, R11, R13, R110): its record is legal, and outside LOCKED and HOLDOVER nothing
is driven and nothing is in flight. -/

namespace Sys2Proof.Machine

/-! ## What the parser's word can do -/

/-- The parser's word touches the parser and the notices alone, or is a link resync, or hands a finished message to the
last trailer checks. -/
theorem State.parserWord_cases (s : State) (w : LinkBits) :
    (∃ p n, s.parserWord w = { s with parser := p, notices := n }) ∨ s.parserWord w = s.resync ∨
      ∃ p tag code res body v, s.parserWord w = (s.setParser p).settle tag code res body v := by
  have gap : ∀ p, ∃ p' n, (s.setParser p).takeGap = { s with parser := p', notices := n } := by
    intro p
    simp only [State.takeGap]
    repeat' split
    · exact ⟨_, _, rfl⟩
    · obtain ⟨p', n, e⟩ := (s.setParser p).abandon_frame .gap (s.setParser p).now
      exact ⟨p', n, e⟩
    · exact ⟨_, _, rfl⟩
  simp only [State.parserWord]
  split
  · split
    · exact .inr (.inl rfl)
    · exact .inl (gap _)
  · exact .inl (gap _)
  · obtain ⟨p, n, e⟩ := (s.setParser { s.parser with breakRun := 0, gap := 0 }).abandon_frame .interrupted s.now
    refine .inl ?_
    simp only [e, State.takeHeader, State.countStray]
    split <;> exact ⟨_, _, rfl⟩
  · split
    · exact .inl ⟨_, _, rfl⟩
    · split
      · exact .inl ⟨_, _, rfl⟩
      · obtain ⟨p, n, e⟩ := (s.setParser { s.parser with breakRun := 0, gap := 0 }).abandon_frame .sequence s.now
        exact .inl ⟨p, n, e⟩
  · split
    · exact .inl ⟨_, _, rfl⟩
    · refine .inr (.inr ?_)
      simp only [State.takeTrailer]
      repeat' split
      all_goals exact ⟨_, _, _, _, _, _, rfl⟩

/-! ## The law is kept -/

/-- Outside LOCKED and HOLDOVER every output slot is released and nothing is in flight (R13, R110). -/
abbrev State.quiet (s : State) : Prop := s.mixer.flight = none ∧ ∀ i : Slot, s.pins.row i = none

/-- What a delivered request writes keeps the law: of the timing unit only the lanes and the counters, and never what is
in flight. -/
theorem State.timingLaw_updates : RequestUpdates State.timingLaw where
  staged _ _ h := h
  active _ _ h := h
  commit _ _ h := h
  groups _ _ h := h
  replies _ _ h := h
  notices _ _ h := h
  mixer _ _ e h := ⟨h.1, fun hd => ⟨e.trans (h.2 hd).1, (h.2 hd).2⟩⟩
  regions _ _ h := h
  capture _ _ h := h
  players _ _ h := h
  watches _ _ h := h
  skip _ _ h := h
  counters _ h := h
  lanes _ _ _ h := h
  memory _ _ _ h := h
  executor _ _ h := h
  cmdq _ _ h := h
  parser _ _ h := h
  record _ _ _ h := h

/-- In a driving state the law says of the record alone. -/
theorem State.timingLaw_of_driving {s : State} (h : s.timing.legal) (hd : s.timing.state.driving = true) :
    s.timingLaw :=
  ⟨h, fun hn => by rw [hd] at hn; cases hn⟩

/-- The law reads the timing unit's record, what is in flight and the pins alone. -/
theorem State.timingLaw_congr {s u : State} (ht : u.timing = s.timing) (hf : u.mixer.flight = s.mixer.flight)
    (hp : u.pins = s.pins) (h : s.timingLaw) : u.timingLaw := by
  rwa [State.timingLaw, ht, hf, hp]

/-- A released pin releases nothing that was driven elsewhere. -/
theorem State.quiet_put {s : State} (i : Slot) (h : s.quiet) : (s.setPins (s.pins.put i none)).quiet :=
  ⟨h.1, fun j => by rw [State.setPins_pins, Table.row_put]; split <;> simp [h.2]⟩

/-- Every released slot is released (R5, R13). -/
theorem pinsReleased_row (i : Slot) : pinsReleased.row i = none := Table.row_tab _ i

/-- Released lanes are quiet (R13, R110). -/
theorem State.quiet_releaseLanes (s : State) : s.releaseLanes.quiet :=
  ⟨rfl, pinsReleased_row⟩

/-- The record with which SEARCH is entered is legal (R10, R11). -/
theorem Timing.legal_toSearch (t : Timing) : t.toSearch.legal := by simp [Timing.legal, Timing.toSearch]

/-- An entry to SEARCH meets the law. -/
theorem State.timingLaw_enterSearch (s : State) : s.enterSearch.timingLaw := by
  rw [State.enterSearch, State.markRestart_eq]
  exact ⟨s.timing.legal_toSearch, fun _ => (s.setTiming s.timing.toSearch).quiet_releaseLanes⟩

/-- The beginning of an output frame drives nothing outside LOCKED and HOLDOVER (R13, R111). -/
theorem State.timingLaw_beginOutput {s : State} (h : s.timingLaw) : s.beginOutput.timingLaw := by
  have ht : s.beginOutput.timing = s.timing := by simp only [State.beginOutput, State.setFrame_timing,
    State.setPins_timing, State.setMixer_timing]
  have hf : s.beginOutput.mixer.flight = s.mixer.flight := by simp only [State.beginOutput, State.setFrame_mixer,
    State.setPins_mixer, State.setMixer_mixer]
  rw [State.timingLaw, ht, hf]
  refine ⟨h.1, fun hd => ⟨(h.2 hd).1, fun i => ?_⟩⟩
  have released : s.carried i = none := by simp [State.carried, State.outEnabled, hd]
  simp [State.beginOutput, released, (h.2 hd).2]

/-- The mixer computes in LOCKED and HOLDOVER alone (R106). -/
theorem State.timingLaw_mix {s : State} (c : FrameCtx) (h : s.timingLaw) : (s.mix c).timingLaw := by
  cases hd : s.timing.state.driving with
  | false => simpa [State.mix, hd] using h
  | true =>
    obtain ⟨n, e⟩ := s.mix_frame c hd
    rw [e]
    exact State.timingLaw_of_driving h.1 hd

/-- The parser's word keeps the law. -/
theorem State.timingLaw_parserWord {s : State} (w : LinkBits) (h : s.timingLaw) : (s.parserWord w).timingLaw := by
  obtain ⟨p, n, e⟩ | e | ⟨p, tag, code, res, body, v, e⟩ := s.parserWord_cases w <;> rw [e]
  · exact h
  · exact h
  · exact State.timingLaw_updates.settle _ _ _ _ _ h

/-- The management outbound slot is driven in LOCKED and HOLDOVER alone (R13, R31). -/
theorem State.timingLaw_emitWord {s : State} (h : s.timingLaw) : s.emitWord.timingLaw := by
  cases hd : s.timing.state.driving with
  | false =>
    have e : s.emitWord = s := by
      cases hs : s.timing.state <;> simp_all [State.emitWord, TimingState.driving]
    rwa [e]
  | true =>
    obtain ⟨k, r, n, x, p, e⟩ := s.emitWord_frame
    rw [e]
    exact State.timingLaw_of_driving h.1 hd

/-- RESET FULL keeps the timing unit's record but for its counters, what is in flight, and the pins (R117, R179). -/
theorem State.fullReset_keeps (s : State) :
    s.fullReset.timing = { s.timing with lockLosses := 0, searchEntries := 0 } ∧
      s.fullReset.mixer.flight = s.mixer.flight ∧ s.fullReset.pins = s.pins := by
  simp [State.fullReset, State.clearRoutes, State.clearMixer]

/-- The three effects keep the law (R17, R37, R179). -/
theorem State.timingLaw_takeEffect {s : State} (h : s.timingLaw) : s.takeEffect.timingLaw := by
  simp only [State.takeEffect]
  repeat' split
  · rename_i inb outb _
    simp only [State.moveLink, State.abandon_clear]
    exact ⟨h.1, fun hd => State.quiet_put s.link.outb (h.2 hd)⟩
  · simp only [State.changeFormat]
    split
    · exact h
    · exact State.timingLaw_congr rfl rfl rfl (State.timingLaw_enterSearch _)
  · obtain ⟨ht, hf, hp⟩ := (s.setEntry none).fullReset_keeps
    exact State.timingLaw_congr (s := s.clearCounters) ht hf hp (State.timingLaw_updates.counters s h)
  · exact h

/-- Every part of a timing event keeps the law. -/
theorem State.timingLaw_runPhase (s : State) (p : Phase) (h : s.timingLaw) : (s.runPhase p).timingLaw := by
  simp only [State.runPhase]
  split
  · exact h
  · rename_i c _
    cases p with
    | entryNotice | effectNotice => obtain ⟨n, e⟩ := s.postEntry_frame c.entry; simp only [e]; exact h
    | entryParser | effectParser => obtain ⟨p, n, e⟩ := s.parserEntry_frame c.entry; simp only [e]; exact h
    | group g => obtain ⟨a, gs, n, e⟩ := s.groupStep_frame g; simp only [e]; exact h
    | commitTest =>
      obtain ⟨a, st, k, gs, n, r, f, e⟩ := s.commitStep_frame (c.kind == .arrival); simp only [e]; exact h
    | player n => obtain ⟨ps, rs, f, e⟩ := s.playerStep_frame n; simp only [e]; exact h
    | playerNotice n => obtain ⟨ns, f, e⟩ := s.postEnd_frame c n; simp only [e]; exact h
    | output => exact State.timingLaw_beginOutput h
    | mixer => exact State.timingLaw_mix c h
    | watch w => obtain ⟨ws, n, f, e⟩ := s.watchStep_frame c w; simp only [e]; exact h
    | capture => obtain ⟨m, k, rs, n, e⟩ := s.captureStep_frame c; simp only [e]; exact h
    | parser => exact State.timingLaw_parserWord c.word h
    | effect => exact State.timingLaw_takeEffect h
    | drain => exact State.timingLaw_updates.drain 1 h
    | word => exact State.timingLaw_emitWord h

/-- What a command of the timing unit makes of the machine before the parts of its event are taken keeps the law. -/
theorem State.Opens.timingLaw {s u : State} {i : Instr} (ho : s.Opens i u) (h : s.timingLaw) : u.timingLaw := by
  obtain ⟨⟨href, hcount, hnone, hhold, hbound, habsent⟩, hquiet⟩ := h
  cases ho with
  | searchEdge hs hc =>
    exact ⟨by simp_all [Timing.legal, Timing.searchEdge], fun _ => hquiet (by rw [hs]; rfl)⟩
  | confirming spacing sch n hs hn =>
    exact ⟨by simp_all [Timing.legal], fun _ => hquiet (by rw [hs]; rfl)⟩
  | confirmed spacing sch hs =>
    exact State.timingLaw_of_driving (by simp_all [Timing.legal, Timing.lock]) rfl
  | frameArrival inp sch hs =>
    exact State.timingLaw_of_driving (by simp_all [Timing.legal, Timing.advance])
      (by simp [Timing.advance, hs, TimingState.driving])
  | earlyEdge pos sch hs =>
    rw [State.markRestart_eq]
    exact State.timingLaw_of_driving (by simp_all [Timing.legal, Timing.loseLock]) rfl
  | fsyncMissing inp sch hs =>
    rw [State.markRestart_eq]
    exact State.timingLaw_of_driving
      (by simp_all [Timing.legal, Timing.loseLock, Timing.advance, Config.holdoverFrames]) rfl
  | emittedFrame edge inp sch hs hlt =>
    exact State.timingLaw_of_driving (by simp_all [Timing.legal, Timing.advance])
      (by simp [Timing.advance, hs, TimingState.driving])
  | holdoverReturn inp sch hs =>
    exact State.timingLaw_of_driving (by simp_all [Timing.legal, Timing.lock, Timing.advance]) rfl
  | offPositionEdge pos sch hs =>
    exact ⟨by simp_all [Timing.legal, Timing.toConfirm, State.releaseLanes], fun _ => State.quiet_releaseLanes _⟩
  | holdoverExpired sch hs => exact s.timingLaw_enterSearch
  | expiredAtEdge sch hs =>
    have hquiet' := s.timingLaw_enterSearch.2
    rw [State.enterSearch, State.markRestart_eq] at hquiet' ⊢
    exact ⟨by simp_all [Timing.legal, Timing.searchEdge, Timing.toSearch, State.releaseLanes],
      fun _ => hquiet' rfl⟩
  | absentInSearch sch hs =>
    exact ⟨by simp_all [Timing.legal], hquiet⟩
  | clockAbsent sch hs => exact State.timingLaw_enterSearch _
  | bclkReturn => exact ⟨by simp_all [Timing.legal], hquiet⟩

/-- After pin reset the law holds (R5). -/
theorem State.timingLaw_pinReset (s : State) : s.pinReset.timingLaw :=
  ⟨by simp [Timing.legal, State.pinReset, State.reset, Timing.reset],
    fun _ => ⟨rfl, pinsReleased_row⟩⟩

/-- Every command keeps the law of the timing unit. -/
theorem State.timingLaw_exec {i : Instr} {s t : State} (h : s.timingLaw) (he : exec i s = .next t) : t.timingLaw := by
  have frame : ∀ (u : State) f, u.timingLaw → (u.setFrame f).timingLaw := fun _ _ hu => hu
  have due : ∀ (u : State) p d, u.timingLaw → (u.takeDue p d).timingLaw := fun u p d hu =>
    State.takeDue_keeps frame State.timingLaw_runPhase p d hu
  have finish : s.finish.timingLaw := State.finish_keeps frame State.timingLaw_runPhase h
  cases exec_completes he with
  | idle => exact h
  | pinReset => exact s.timingLaw_pinReset
  | entered ho => exact ho.timingLaw finish
  | event kind entry inp phases sch ho =>
    exact State.event_keeps frame State.timingLaw_runPhase kind entry inp phases sch (ho.timingLaw finish)
  | part i p d => exact due s p d h
  | parts i p q d d' => exact due _ q d' (due s p d h)
  | request i code r => exact State.timingLaw_updates.deliver code r h

/-- Settles O5: the law of the timing unit is kept by every command, and so by every step. -/
theorem timingLawIsKept : Obligations.TimingLawIsKept := by
  intro s t h hstep
  simp only [step] at hstep
  split at hstep
  · cases hstep
    exact State.finish_keeps (fun _ _ hu => hu) State.timingLaw_runPhase h
  · rename_i rest _
    exact State.timingLaw_exec (s := s.setPending rest) h hstep

end Sys2Proof.Machine
end

section
/-! The orders in which the parts of an event are taken (assumption 3). -/

namespace Sys2Proof

/-- The parts stand in an order that the table of `Phase.mustPrecede` allows. -/
abbrev allowedOrder (parts : List Phase) : Prop := parts.Pairwise fun p q => q.mustPrecede p = false

/-- No part must precede itself. -/
theorem Phase.mustPrecede_self (p : Phase) : p.mustPrecede p = false := by
  cases p <;> rfl

/-- A part is ready where it is still to come and nothing to come must precede it. -/
theorem Phase.ready_iff {todo : List Phase} {p : Phase} :
    Phase.ready todo p = true ↔ p ∈ todo ∧ ∀ q ∈ todo, q.mustPrecede p = false := by
  simp [Phase.ready]

/-- The part in front of an allowed order is ready. -/
theorem Phase.ready_head {todo order : List Phase} {p : Phase} (hp : (p :: order).Perm todo)
    (ho : allowedOrder (p :: order)) : Phase.ready todo p = true := by
  refine Phase.ready_iff.mpr ⟨hp.subset (by simp), fun q hq => ?_⟩
  obtain rfl | hq := List.mem_cons.mp (hp.symm.subset hq)
  · exact q.mustPrecede_self
  · exact (List.pairwise_cons.mp ho).1 q hq

/-- The next part is a ready one. -/
theorem ready_of_nextPhase {first todo : List Phase} {p : Phase} (h : nextPhase first todo = some p) :
    Phase.ready todo p = true := by
  simp only [nextPhase] at h
  cases h1 : first.find? (Phase.ready todo) with
  | none => rw [h1] at h; exact List.find?_some h
  | some q => rw [h1] at h; cases h; exact List.find?_some h1

/-- Whatever is asked for, the parts are taken in an allowed order. -/
theorem schedule_allowed : ∀ (n : Nat) (first todo : List Phase), allowedOrder todo →
    allowedOrder (schedule n first todo) := by
  intro n
  induction n with
  | zero => exact fun _ _ h => h
  | succ n ih =>
    intro first todo h
    simp only [schedule]
    split
    · exact h
    · rename_i p hp
      obtain ⟨-, hready⟩ := Phase.ready_iff.mp (ready_of_nextPhase hp)
      refine List.pairwise_cons.mpr ⟨fun q hq => hready q ?_, ih _ _ (h.sublist List.erase_sublist)⟩
      exact List.mem_of_mem_erase ((schedule_perm n _ _).subset hq)

/-- An allowed order that is asked for whole is the order taken. -/
theorem schedule_eq : ∀ (order todo : List Phase), order.Perm todo → allowedOrder order →
    schedule todo.length order todo = order := by
  intro order
  induction order with
  | nil => intro todo hp _; rw [hp.symm.eq_nil]; rfl
  | cons p order ih =>
    intro todo hp ho
    have hnext : nextPhase (p :: order) todo = some p := by
      simp [nextPhase, List.find?_cons_of_pos (Phase.ready_head hp ho)]
    have hrest : order.Perm (todo.erase p) := by simpa using hp.erase p
    have hlen : todo.length = (todo.erase p).length + 1 := by
      rw [← hp.length_eq, ← hrest.length_eq]; rfl
    rw [hlen]
    simp only [schedule, hnext, List.erase_cons_head]
    rw [ih _ hrest ho.of_cons]

/-- The order a command takes is allowed where its standing order is. -/
theorem Sched.order_allowed (sch : Sched) {parts : List Phase} (h : allowedOrder parts) :
    allowedOrder (sch.order parts) := by
  simp only [Sched.order]
  split
  · exact h
  · exact schedule_allowed _ _ _ h

/-- Every allowed order of the parts can be asked for. -/
theorem Sched.order_of_allowed {parts order : List Phase} (keep : Nat) (hp : order.Perm parts)
    (ho : allowedOrder order) : Sched.order ⟨order, keep⟩ parts = order := by
  cases order with
  | nil => rw [hp.symm.eq_nil]; rfl
  | cons p order => exact schedule_eq _ _ hp ho

end Sys2Proof

namespace Sys2Proof.Machine

/-! ## The parts of a declared frame -/

/-- The parts of a declared frame that come before the watches (R8, R106). -/
abbrev begunParts : List Phase := [.group 0, .group 1, .group 2, .group 3, .group 4, .group 5, .group 6, .group 7,
  .commitTest, .player 0, .playerNotice 0, .player 1, .playerNotice 1, .output, .mixer]

/-- The evaluations of the sixteen watches (R163). -/
abbrev watchParts : List Phase := [.watch 0, .watch 1, .watch 2, .watch 3, .watch 4, .watch 5, .watch 6, .watch 7,
  .watch 8, .watch 9, .watch 10, .watch 11, .watch 12, .watch 13, .watch 14, .watch 15]

/-- The parts of a fenced request's effect (R17, R37, R41, R179). -/
abbrev effectParts : List Phase := [.effect, .effectNotice, .effectParser, .drain, .drain, .drain, .drain]

/-- An event closes an output frame where a fenced reply's trailer has been sent (R44). -/
theorem State.closing_iff {s : State} : s.closing = true ↔ ∃ tag eff, s.executor = .fenced tag eff true := by
  simp only [State.closing]
  split
  · rename_i tag eff he; exact ⟨fun _ => ⟨tag, eff, he⟩, fun _ => rfl⟩
  · rename_i hn; exact ⟨fun h => by simp at h, fun ⟨tag, eff, he⟩ => absurd he (hn tag eff)⟩

/-- The effect's parts, where there is one to take. -/
theorem State.closePhases_eq (s : State) : s.closePhases = if s.closing then effectParts else [] := rfl

/-- The parts of a declared frame that closes no fenced reply's output frame. -/
theorem State.framePhases_open {s : State} (h : s.closing = false) :
    s.framePhases true = begunParts ++ watchParts ++ [.capture, .word, .parser] ∧
      s.framePhases false = begunParts ++ [.capture, .word] := by
  simp only [State.framePhases, h]
  exact ⟨rfl, rfl⟩

/-- The parts of a declared frame that closes one. -/
theorem State.framePhases_closing {s : State} (h : s.closing = true) :
    s.framePhases true = begunParts ++ watchParts ++ [.capture, .parser] ++ effectParts ++ [.word] ∧
      s.framePhases false = begunParts ++ [.capture] ++ effectParts ++ [.word] := by
  simp only [State.framePhases, State.closePhases_eq, h]
  exact ⟨rfl, rfl⟩

/-- The standing order is allowed, with a state entry in front too. -/
theorem State.framePhases_allowed (s : State) (arrival : Bool) :
    allowedOrder ([.entryNotice, .entryParser] ++ s.framePhases arrival) := by
  cases h : s.closing with
  | false => cases arrival <;> simp only [s.framePhases_open h] <;> decide
  | true => cases arrival <;> simp only [s.framePhases_closing h] <;> decide

/-! ## The table of orders -/

/-- The orders that `Phase.mustPrecede` keeps, by the later of the two parts: a table, held to the definition entry by
entry. -/
theorem mustPrecede_iff (q p : Phase) : q.mustPrecede p = true ↔
    (q ∈ [.entryNotice, .entryParser] ∧ p ∉ [.entryNotice, .entryParser, .word]) ∨
    (p = .mixer ∧ (q ∈ [.commitTest, .output] ∨ (∃ g, q = .group g) ∨ ∃ n, q = .player n)) ∨
    ((∃ w, p = .watch w) ∧ (q = .output ∨ ∃ n, q = .player n)) ∨
    (p = .capture ∧ (q = .output ∨ (∃ n, q = .player n) ∨ ∃ w, q = .watch w)) ∨
    (∃ n, q = .player n ∧ p = .playerNotice n) ∨
    (p = .effect ∧ q ∉ [.effect, .effectNotice, .effectParser, .drain, .word]) ∨
    (p ∈ [.effectNotice, .effectParser] ∧ q ∉ [.effectNotice, .effectParser, .drain, .word]) ∨
    (p = .drain ∧ q ∉ [.effectParser, .drain, .word]) ∨
    (q = .effect ∧ p = .word) := by
  cases p <;> cases q <;> simp [Phase.mustPrecede, Phase.rank]
  case playerNotice.player a b => exact eq_comm

end Sys2Proof.Machine
end

section
/-! Each command of the timing unit in the state in which its event falls; what a declared frame hands over. -/

namespace Sys2Proof.Machine

/-! ## Where each event falls -/

section
variable {s : State} {inp : FrameIn} {sch : Sched}

/-- An edge in SEARCH while BCLK runs (R7, R11). -/
theorem exec_searchEdge (hs : s.finish.timing.state = .search) (hc : s.finish.timing.clockAbsent = false) :
    exec .searchEdge s = .next (s.finish.setTiming s.finish.timing.searchEdge) := if_pos ⟨hs, hc⟩

/-- An edge in CONFIRM at another than the expected spacing (R7). -/
theorem exec_confirmEdge_restart {spacing : Nat} (hs : s.finish.timing.state = .confirm)
    (hp : spacing ≠ s.finish.timing.format.spacing) : exec (.confirmEdge spacing sch) s = .next (s.finish.setTiming
      { s.finish.timing with confirmCount := some 1, sinceRef := some 0 }) := by
  simp only [exec, execConfirmEdge, if_pos hs, if_neg hp]

/-- The second edge at the expected spacing (R7). -/
theorem exec_confirmEdge_second {spacing : Nat} (hs : s.finish.timing.state = .confirm)
    (hp : spacing = s.finish.timing.format.spacing) (hc : s.finish.timing.confirmCount = some 1) :
    exec (.confirmEdge spacing sch) s = .next (s.finish.setTiming
      { s.finish.timing with confirmCount := some 2, sinceRef := some 0 }) := by
  simp only [exec, execConfirmEdge, if_pos hs, if_pos hp, hc, Option.some.injEq, OfNat.one_ne_ofNat, if_false]

/-- The third edge at the expected spacing (R7). -/
theorem exec_confirmEdge_third {spacing : Nat} (hs : s.finish.timing.state = .confirm)
    (hp : spacing = s.finish.timing.format.spacing) (hc : s.finish.timing.confirmCount = some 2) :
    exec (.confirmEdge spacing sch) s = .next ((s.finish.setTiming s.finish.timing.lock).bareEvent
      (some ⟨.locked, .confirmed, s.finish.now⟩) [.entryNotice, .output, .word] sch) := by
  simp only [exec, execConfirmEdge, if_pos hs, if_pos hp, if_pos hc]

/-- An on-time edge in LOCKED (R8). -/
theorem exec_frameArrival (hs : s.finish.timing.state = .locked) : exec (.frameArrival inp sch) s = .next
    ((s.finish.setTiming { s.finish.timing.advance with sinceRef := some 0 }).event .arrival none inp
      (s.finish.framePhases true) sch) := if_pos hs

/-- An early edge in LOCKED (R9). -/
theorem exec_earlyEdge {pos : Nat} (hs : s.finish.timing.state = .locked) (h0 : 0 < pos)
    (hp : pos < s.finish.timing.format.spacing) : exec (.earlyEdge pos sch) s = .next
    ((s.finish.setTiming { s.finish.timing.loseLock with sinceRef := some pos }).markRestart.bareEvent
      (some ⟨.holdover, .fsyncEarly, s.finish.now⟩) [.entryNotice, .entryParser] sch) := if_pos ⟨hs, h0, hp⟩

/-- A missing edge in LOCKED (R9). -/
theorem exec_fsyncMissing (hs : s.finish.timing.state = .locked) : exec (.fsyncMissing inp sch) s = .next
    ((s.finish.setTiming { s.finish.timing.loseLock.advance with
        holdoverCount := 1, sinceRef := some s.finish.timing.format.spacing }).markRestart.event
      .emitted (some ⟨.holdover, .fsyncMissing, s.finish.now⟩) inp
      ([.entryNotice, .entryParser] ++ s.finish.framePhases false) sch) := if_pos hs

/-- An expected point of HOLDOVER, up to the sixteenth (R10). -/
theorem exec_emittedFrame {edge : Bool} (hs : s.finish.timing.state = .holdover)
    (hn : s.finish.timing.holdoverCount < 16) (he : edge = true → s.finish.timing.returnRun = false) :
    exec (.emittedFrame edge inp sch) s = .next
      ((s.finish.setTiming { s.finish.timing.advance with
          holdoverCount := s.finish.timing.holdoverCount + 1, returnRun := edge
          sinceRef := some (if edge then 0 else s.finish.timing.nextPoint) }).event
        .emitted none inp (s.finish.framePhases false) sch) :=
  if_pos ⟨hs, hn, by cases edge <;> simp_all⟩

/-- The second consecutive on-time edge in HOLDOVER (R10). -/
theorem exec_holdoverReturn (hs : s.finish.timing.state = .holdover) (hr : s.finish.timing.returnRun = true) :
    exec (.holdoverReturn inp sch) s = .next ((s.finish.setTiming s.finish.timing.lock.advance).event .arrival
      (some ⟨.locked, .returned, s.finish.now⟩) inp (.entryNotice :: s.finish.framePhases true) sch) := if_pos ⟨hs, hr⟩

/-- An edge between two expected points of HOLDOVER (R10). -/
theorem exec_offPositionEdge {pos : Nat} (hs : s.finish.timing.state = .holdover)
    (h0 : s.finish.timing.sinceRef.getD 0 < pos) (hp : pos < s.finish.timing.nextPoint) :
    exec (.offPositionEdge pos sch) s = .next
      ((s.finish.setTiming s.finish.timing.toConfirm).releaseLanes.bareEvent none s.finish.closePhases sch) :=
  if_pos ⟨hs, h0, hp⟩

/-- The expected point after the sixteenth emitted frame (R10). -/
theorem exec_holdoverExpired {edge : Bool} (hs : s.finish.timing.state = .holdover)
    (hn : 16 ≤ s.finish.timing.holdoverCount) (he : edge = true → s.finish.timing.returnRun = false) :
    exec (.holdoverExpired edge sch) s = .next
      ((if edge then s.finish.enterSearch.setTiming s.finish.enterSearch.timing.searchEdge
        else s.finish.enterSearch).bareEvent
        (some ⟨.search, .holdoverExpired, s.finish.now⟩) [.entryNotice, .entryParser] sch) :=
  if_pos ⟨hs, hn, by cases edge <;> simp_all⟩

/-- A bit clock declared absent outside SEARCH (R11). -/
theorem exec_clockAbsent (hc : s.finish.timing.clockAbsent = false) (hs : s.finish.timing.state ≠ .search) :
    exec (.clockAbsent sch) s = .next ((s.finish.setTiming s.finish.timing.loseClock).enterSearch.bareEvent
      (some ⟨.search, .clockAbsent, s.finish.now⟩) ([.entryNotice, .entryParser] ++ s.finish.closePhases) sch) := by
  simp only [exec, execClockAbsent, hc, Bool.false_eq_true, if_false, if_neg hs]

/-- A bit clock declared absent in SEARCH (R11). -/
theorem exec_clockAbsent_search (hc : s.finish.timing.clockAbsent = false) (hs : s.finish.timing.state = .search) :
    exec (.clockAbsent sch) s = .next (s.finish.setTiming { s.finish.timing with clockAbsent := true }) := by
  simp only [exec, execClockAbsent, hc, Bool.false_eq_true, if_false, if_pos hs]

/-- An absence that lasts is not declared again (R11). -/
theorem exec_clockAbsent_again (hc : s.finish.timing.clockAbsent = true) :
    exec (.clockAbsent sch) s = .next s := if_pos hc

/-- The first BCLK edge after an absence (R11). -/
theorem exec_bclkReturn (hc : s.finish.timing.clockAbsent = true) :
    exec .bclkReturn s = .next (s.finish.setTiming { s.finish.timing with clockAbsent := false }) := if_pos hc

end

/-! ## A frame arrival -/

/-- An event of which every part is left open hands over its frame under the lanes, the format and the link of the state
before it, and does nothing else yet (R3, R18, R22). -/
theorem State.event_handsOver {s u : State} (hl : u.timing.inLanes = s.timing.inLanes)
    (hf : u.timing.format = s.timing.format) (hk : u.link = s.link) (kind : FrameKind) (entry : Option Entry)
    (inp : FrameIn) {phases : List Phase} {sch : Sched} (h0 : 0 < phases.length) (h : phases.length ≤ sch.keep) :
    u.event kind entry inp phases sch = u.setFrame (some (s.handOver kind entry inp (sch.order phases))) := by
  rw [State.event_keep _ _ _ _ _ _ h0 h, State.handOver_congr hl hf hk]

/-- Settles O15: the hand-over, the parts, the orders that can be asked for, and the table they keep to. -/
theorem frameArrivalHandsOver : Obligations.FrameArrivalHandsOver := by
  refine ⟨fun s inp first keep hk hs => ?_, fun s kind entry inp todo => ?_, fun s => ?_,
    fun parts first keep h => ?_, mustPrecede_iff⟩
  · obtain ⟨h0, h64⟩ := s.finish.framePhases_length true
    rw [exec_frameArrival hs]
    have hlen : (s.finish.framePhases true).length ≤ keep := by omega
    exact congrArg _ (State.event_handsOver (by rfl) (by rfl) (by rfl) _ _ _ h0 hlen)
  · exact ⟨rfl, rfl, rfl, rfl, rfl, fun i => by simp [State.handOver]⟩
  · exact ⟨State.closing_iff, State.framePhases_open, State.framePhases_closing, s.framePhases_allowed⟩
  · exact ⟨order_standing parts keep, Sched.order_perm _ _, Sched.order_allowed _ h,
      fun order hp ho => Sched.order_of_allowed keep hp ho⟩

end Sys2Proof.Machine
end

section
/-! State entries reported in the standing order, and the events of HOLDOVER. -/

namespace Sys2Proof.Machine

/-! ## The posting of an entry and the parser's part of it -/

/-- The FRAME_STATE of an entry (R14). -/
abbrev State.entryNotice (s : State) (e : Entry) : NoticeVal := .frameState e.frame e.state e.cause s.timing.clockAbsent

/-- The FRAME_STATE posting of an entry (R14). -/
theorem State.runPhase_notice {s : State} {c : FrameCtx} {e : Entry} (hs : s.frame = some c) (he : c.entry = some e) :
    ∀ p ∈ [Phase.entryNotice, .effectNotice],
      s.runPhase p = s.post (s.entryNotice e) := by
  intro p hp
  obtain rfl | rfl : p = .entryNotice ∨ p = .effectNotice := by simpa using hp
  all_goals simp only [State.runPhase, hs, he, State.postEntry]

/-- The parser's part of an entry abandons its message (R29). -/
theorem State.runPhase_lost {s : State} {c : FrameCtx} {e : Entry} (hs : s.frame = some c) (he : c.entry = some e) :
    ∀ p ∈ [Phase.entryParser, .effectParser],
      s.runPhase p = (s.setParser s.parser.lost).setNotices (s.parser.lostNotice .lockLost e.frame s.notices) := by
  intro p hp
  obtain rfl | rfl : p = .entryParser ∨ p = .effectParser := by simpa using hp
  all_goals simp only [State.runPhase, hs, he, State.parserEntry, State.parserLost_eq]

/-- With no entry there is nothing to post and nothing for the parser to do. -/
theorem State.runPhase_no_entry {s : State} {c : FrameCtx} (hs : s.frame = some c) (he : c.entry = none) :
    ∀ p ∈ [Phase.entryNotice, .entryParser, .effectNotice, .effectParser], s.runPhase p = s := by
  intro p hp
  obtain rfl | rfl | rfl | rfl :
    p = .entryNotice ∨ p = .entryParser ∨ p = .effectNotice ∨ p = .effectParser := by simpa using hp
  all_goals simp only [State.runPhase, hs, he, State.postEntry, State.parserEntry]

/-! ## Both, in the standing order -/

/-- The notices once an entry at a loss of lock has been reported in the standing order: FRAME_STATE, then
INBOUND_ABANDONED for a message being received (R14, R29, R30; assumption 3). -/
abbrev State.lossNotices (s : State) (e : Entry) : NoticeSide :=
  s.parser.lostNotice .lockLost e.frame (s.notices.post (s.entryNotice e))

/-- The machine once an entry at a loss of lock has been reported in the standing order. -/
def State.reportLoss (s : State) (e : Entry) : State := (s.setParser s.parser.lost).setNotices (s.lossNotices e)

/-- The two parts of an entry, taken first, report it. -/
theorem State.runWhile_reportLoss {go : List Phase → Bool} {n : Nat} {s : State} {c : FrameCtx} {e : Entry}
    {rest : List Phase} (he : c.entry = some e) (h1 : go (.entryNotice :: .entryParser :: rest) = true)
    (h2 : go (.entryParser :: rest) = true) :
    (s.setFrame (some { c with todo := .entryNotice :: .entryParser :: rest })).runWhile go (n + 2) =
      ((s.reportLoss e).setFrame (some { c with todo := rest })).runWhile go n := by
  have post : (s.setFrame (some { c with todo := .entryParser :: rest })).runPhase .entryNotice =
      (s.post (s.entryNotice e)).setFrame (some { c with todo := .entryParser :: rest }) :=
    State.runPhase_notice (c := { c with todo := .entryParser :: rest }) rfl he .entryNotice (by simp)
  have lost : ((s.post (s.entryNotice e)).setFrame (some { c with todo := rest })).runPhase .entryParser =
      (s.reportLoss e).setFrame (some { c with todo := rest }) :=
    State.runPhase_lost (c := { c with todo := rest }) rfl he .entryParser (by simp)
  rw [State.runWhile_front h1, post, State.runWhile_front h2, lost]

/-- An event that reports a loss of lock goes on with the rest of its parts. -/
theorem State.event_reportLoss (s : State) (kind : FrameKind) (e : Entry) (inp : FrameIn) {rest : List Phase}
    {keep : Nat} (hk : keep ≤ rest.length) :
    s.event kind (some e) inp ([.entryNotice, .entryParser] ++ rest) ⟨[], keep⟩ =
      ((s.reportLoss e).setFrame (some (s.handOver kind (some e) inp rest))).runWhile
        (fun todo => decide (keep < todo.length)) (rest.length + 1) := by
  rw [State.event_eq]
  exact State.runWhile_reportLoss (c := s.handOver kind (some e) inp rest) rfl
    (by simpa using by omega) (by simpa using by omega)

/-- The same with the rest left open. -/
theorem State.event_reportLoss_open (s : State) (kind : FrameKind) (e : Entry) (inp : FrameIn) {rest : List Phase}
    (hr : rest ≠ []) : s.event kind (some e) inp ([.entryNotice, .entryParser] ++ rest) ⟨[], rest.length⟩ =
      (s.reportLoss e).setFrame (some (s.handOver kind (some e) inp rest)) := by
  obtain ⟨p, l, rfl⟩ := List.exists_cons_of_ne_nil hr
  rw [State.event_reportLoss _ _ _ _ le_rfl]
  exact State.runWhile_stop rfl rfl (by simp)

/-- The same with nothing else to come. -/
theorem State.event_reportLoss_whole (s : State) (kind : FrameKind) (e : Entry) (inp : FrameIn) :
    s.event kind (some e) inp [.entryNotice, .entryParser] ⟨[], 0⟩ = (s.reportLoss e).setFrame none :=
  (s.event_reportLoss kind e inp (rest := []) le_rfl).trans (State.runWhile_over rfl rfl)

/-- An event that reports an entry and leaves the rest of its parts open. -/
theorem State.event_report_open (s : State) (kind : FrameKind) (e : Entry) (inp : FrameIn) {rest : List Phase}
    (hr : rest ≠ []) : s.event kind (some e) inp (.entryNotice :: rest) ⟨[], rest.length⟩ =
      (s.post (s.entryNotice e)).setFrame (some (s.handOver kind (some e) inp rest)) := by
  obtain ⟨p, l, rfl⟩ := List.exists_cons_of_ne_nil hr
  rw [State.event_eq, State.runWhile_take (State.setFrame_frame _ _) rfl (by simp),
    State.runPhase_notice (e := e) (State.setFrame_frame _ _) rfl _ (by simp)]
  exact State.runWhile_stop rfl rfl (by simp)

/-! ## The expected points of HOLDOVER -/

/-- A declared frame has parts. -/
theorem State.framePhases_ne_nil (s : State) (arrival : Bool) : s.framePhases arrival ≠ [] :=
  List.length_pos_iff.mp (s.framePhases_length arrival).1

/-- Settles O16: each expected point hands over its frame, with its entry reported first or with all parts to come. -/
theorem holdoverPointsHandOver : Obligations.HoldoverPointsHandOver := by
  refine ⟨fun s inp => ⟨fun hs => ?_, fun hs hr => ?_⟩, fun s inp first keep hk =>
    ⟨fun hs => ?_, fun edge hs hn he => ?_, fun hs hr => ?_⟩⟩
  · rw [exec_fsyncMissing hs, State.event_reportLoss_open _ _ _ _ (State.framePhases_ne_nil _ _), State.markRestart_eq]
    rfl
  · rw [exec_holdoverReturn hs hr, State.event_report_open _ _ _ _ (State.framePhases_ne_nil _ _)]
    rfl
  · have hlen : ([Phase.entryNotice, .entryParser] ++ s.finish.framePhases false).length ≤ keep := by
      have := s.finish.framePhases_length false
      simp only [List.length_append, List.length_cons, List.length_nil]; omega
    rw [exec_fsyncMissing hs, State.markRestart_eq, State.markRestart_eq]
    exact congrArg _ (State.event_handsOver (by rfl) (by rfl) (by rfl) _ _ _ (by simp) hlen)
  · have hlen := s.finish.framePhases_length false
    rw [exec_emittedFrame hs hn he]
    exact congrArg _ (State.event_handsOver (by rfl) (by rfl) (by rfl) _ _ _ hlen.1 (show _ ≤ keep by omega))
  · have hlen : (Phase.entryNotice :: s.finish.framePhases true).length ≤ keep := by
      have := s.finish.framePhases_length true
      simp only [List.length_cons]; omega
    rw [exec_holdoverReturn hs hr]
    exact congrArg _ (State.event_handsOver (by rfl) (by rfl) (by rfl) _ _ _ (by simp) hlen)

end Sys2Proof.Machine
end

section
/-! The acquisition of framing, and the events that lose it. -/

namespace Sys2Proof.Machine

/-! ## Framing is acquired -/

/-- The positions of a format (R3). -/
theorem Format.present_iff (f : Format) (i : Slot) : f.present i = true ↔ f.sixteen = true ∨ i.toNat % 16 < 8 := by
  rw [Format.present, Bool.or_eq_true, decide_eq_true_eq, positionOf]

/-- The next expected point of HOLDOVER is the first multiple of the spacing after the count (R6, R10). -/
theorem Timing.nextPoint_spec {t : Timing} {n : Nat} (h : t.sinceRef = some n) :
    t.format.spacing ∣ t.nextPoint ∧ n < t.nextPoint ∧ t.nextPoint ≤ n + t.format.spacing := by
  have hpos : 0 < t.format.spacing := by
    simp only [Format.spacing]
    split <;> decide
  have heq : t.nextPoint = t.format.spacing * (n / t.format.spacing) + t.format.spacing := by
    simp only [Timing.nextPoint, h, Option.getD_some]
    ring
  have hdiv := Nat.div_add_mod n t.format.spacing
  have hmod := Nat.mod_lt n hpos
  refine ⟨Dvd.intro_left _ rfl, ?_, ?_⟩ <;> omega

/-- The beginning of an output frame keeps the clip counts. -/
theorem State.beginOutput_clips (s : State) : s.beginOutput.mixer.clips = s.mixer.clips := by
  simp only [State.beginOutput, State.setFrame_mixer, State.setPins_mixer, State.setMixer_mixer]

/-- `u` differs from `s` in the output frame and in what its beginning and its management word write, and in no clip
count. -/
def State.OutputOnly (s u : State) : Prop :=
  u.mixer.clips = s.mixer.clips ∧ u = { s with
    mixer := u.mixer, pins := u.pins, notices := u.notices, composer := u.composer, replies := u.replies
    executor := u.executor, frame := u.frame }

/-- One such change after another is such a change. -/
theorem State.OutputOnly.trans {s u v : State} (h : s.OutputOnly u) (h' : u.OutputOnly v) : s.OutputOnly v := by
  obtain ⟨hc, hu⟩ := h
  obtain ⟨hc', hv⟩ := h'
  exact ⟨hc'.trans hc, hv.trans (by rw [hu])⟩

/-- The posting of an entry, the output frame's beginning and its word change no more than that (R14, R31, R111). -/
theorem State.runPhase_outputOnly (u : State) {p : Phase} (hp : p ∈ [Phase.entryNotice, .output, .word]) :
    u.OutputOnly (u.runPhase p) := by
  simp only [State.runPhase]
  split
  · exact ⟨rfl, rfl⟩
  · rename_i c _
    obtain rfl | rfl | rfl : p = .entryNotice ∨ p = .output ∨ p = .word := by simpa using hp
    · obtain ⟨n, h⟩ := u.postEntry_frame c.entry
      simp only [h]
      exact ⟨rfl, rfl⟩
    · refine ⟨u.beginOutput_clips, ?_⟩
      obtain ⟨m, p, f, h⟩ := u.beginOutput_frame
      simp only [h]
    · obtain ⟨k, r, n, e, p, h⟩ := u.emitWord_frame
      simp only [h]
      exact ⟨rfl, rfl⟩

/-- An entry to LOCKED, with the output frame that begins there, changes no more than that in whatever order. -/
theorem State.event_outputOnly (s : State) (kind : FrameKind) (entry : Option Entry) (inp : FrameIn) (sch : Sched) :
    s.OutputOnly (s.event kind entry inp [.entryNotice, .output, .word] sch) :=
  State.event_keeps_of (P := s.OutputOnly) (fun _ _ h => h.trans ⟨rfl, rfl⟩)
    (fun u _ hp h => h.trans (u.runPhase_outputOnly hp)) kind entry inp sch ⟨rfl, rfl⟩

/-- Settles O14: the edges of SEARCH and CONFIRM, and what they are measured against. -/
theorem framingIsAcquired : Obligations.FramingIsAcquired := by
  refine ⟨fun _ _ => ⟨rfl, rfl⟩, Format.present_iff, fun t n h => Timing.nextPoint_spec h, fun s => ⟨fun hs hc => ?_,
    fun hs spacing sch => ⟨fun hp => ?_, fun hp hc => ?_, fun hp hc => ⟨?_, ?_⟩⟩⟩⟩
  · exact exec_searchEdge hs hc
  · exact exec_confirmEdge_restart hs hp
  · exact exec_confirmEdge_second hs hp hc
  · rw [exec_confirmEdge_third hs hp hc]
    exact congrArg _ (State.event_report_open (rest := [.output, .word]) _ _ _ _ (by simp))
  · obtain ⟨hclips, h⟩ := State.event_outputOnly (s.finish.setTiming s.finish.timing.lock) .bare
      (some ⟨.locked, .confirmed, s.finish.now⟩) (FrameIn.ofList []) sch
    have htime := congrArg State.timing h
    refine ⟨_, exec_confirmEdge_third hs hp hc, htime, hclips, h.trans ?_⟩
    simp only [State.bareEvent]
    rw [htime]
    rfl

/-! ## Losses of lock -/

/-- A part of a state entry writes the parser and the notices alone (R14, R29). -/
theorem State.runPhase_entry_frame (s : State) {p : Phase} (hp : p ∈ [Phase.entryNotice, .entryParser]) :
    ∃ q n, s.runPhase p = { s with parser := q, notices := n } := by
  simp only [State.runPhase]
  split
  · exact ⟨_, _, rfl⟩
  · rename_i c _
    obtain rfl | rfl : p = .entryNotice ∨ p = .entryParser := by simpa using hp
    · obtain ⟨n, e⟩ := s.postEntry_frame c.entry
      exact ⟨_, n, e⟩
    · exact s.parserEntry_frame c.entry

/-- An event that is a state entry alone writes the parser and the notices alone, in whatever order (R14, R29). -/
theorem State.event_entry_frame (s : State) (kind : FrameKind) (entry : Option Entry) (inp : FrameIn) (sch : Sched) :
    ∃ q n f, s.event kind entry inp [.entryNotice, .entryParser] sch =
      { s with parser := q, notices := n, frame := f } := by
  refine State.event_keeps_of (P := fun u => ∃ q n f, u = { s with parser := q, notices := n, frame := f })
    ?_ ?_ kind entry inp sch ⟨_, _, _, rfl⟩
  · rintro _ f ⟨q, n, -, rfl⟩
    exact ⟨q, n, f, rfl⟩
  · rintro _ p hp ⟨q, n, f, rfl⟩
    obtain ⟨q', n', e⟩ := State.runPhase_entry_frame { s with parser := q, notices := n, frame := f } hp
    exact ⟨q', n', f, e⟩

/-- The two parts of an entry at a loss of lock taken the other way round (R29, section 2.7). -/
theorem State.event_parserFirst (s : State) (kind : FrameKind) (e : Entry) (inp : FrameIn) :
    s.event kind (some e) inp [.entryNotice, .entryParser] ⟨[.entryParser], 0⟩ =
      { s with
        parser := s.parser.lost
        notices := (s.parser.lostNotice .lockLost e.frame s.notices).post (s.entryNotice e)
        frame := none } := by
  let c := s.handOver kind (some e) inp
  let u := (s.setParser s.parser.lost).setNotices (s.parser.lostNotice .lockLost e.frame s.notices)
  have order : Sched.order ⟨[.entryParser], 0⟩ [.entryNotice, .entryParser] = [.entryParser, .entryNotice] := rfl
  have lost : (s.setFrame (some (c [.entryNotice]))).runPhase .entryParser = u.setFrame (some (c [.entryNotice])) :=
    State.runPhase_lost (c := c [.entryNotice]) rfl rfl .entryParser (by simp)
  have post : (u.setFrame (some (c []))).runPhase .entryNotice = (u.post (s.entryNotice e)).setFrame (some (c [])) :=
    State.runPhase_notice (c := c []) rfl rfl .entryNotice (by simp)
  calc s.event kind (some e) inp [.entryNotice, .entryParser] ⟨[.entryParser], 0⟩
    _ = (s.setFrame (some (c [.entryParser, .entryNotice]))).finish := by rw [State.event_whole, order]
    _ = ((s.setFrame (some (c [.entryNotice]))).runPhase .entryParser).finish := s.finish_front (c []) _ _
    _ = ((u.setFrame (some (c []))).runPhase .entryNotice).finish := by rw [lost]; exact u.finish_front (c []) _ _
    _ = (u.post (s.entryNotice e)).setFrame none := by rw [post]; exact (u.post (s.entryNotice e)).finish_nil (c [])

/-- Settles O18: an early edge, in every order of its two parts and in each of them. -/
theorem earlyEdgeEntersHoldover : Obligations.EarlyEdgeEntersHoldover := by
  intro s pos hs h0 hp
  refine ⟨fun sch => ?_, ?_, ?_⟩
  · obtain ⟨q, n, f, h⟩ := State.event_entry_frame
      ((s.finish.setTiming { s.finish.timing.loseLock with sinceRef := some pos }).setComposer s.finish.composer.cut)
      .bare (some ⟨.holdover, .fsyncEarly, s.finish.now⟩) (FrameIn.ofList []) sch
    rw [exec_earlyEdge hs h0 hp, State.markRestart_eq, State.bareEvent]
    exact ⟨_, rfl, by rw [State.setTiming_composer, h]; rfl⟩
  · rw [exec_earlyEdge hs h0 hp, State.markRestart_eq]
    exact congrArg _ (State.event_reportLoss_whole _ _ _ _)
  · rw [exec_earlyEdge hs h0 hp, State.markRestart_eq]
    exact congrArg _ (State.event_parserFirst _ _ _ _)

/-- What an entry to SEARCH writes (R10, R11, R13, R17, R32, R110). -/
theorem State.enterSearch_eq (s : State) : s.enterSearch = { s with
    timing := s.timing.toSearch, pins := pinsReleased, mixer := { s.mixer with flight := none }
    composer := s.composer.cut } := by
  rw [State.enterSearch, State.markRestart_eq]
  rfl

/-- The machine once HOLDOVER has expired: SEARCH is entered, and an edge there is taken as its first (R10). -/
def State.expired (s : State) (edge : Bool) : State := { s with
  timing := { s.timing with
    state := if edge then .confirm else .search, sinceRef := if edge then some 0 else none
    confirmCount := if edge then some 1 else none, holdoverCount := 0, returnRun := false
    searchEntries := satInc s.timing.searchEntries }
  pins := pinsReleased, mixer := { s.mixer with flight := none }, composer := s.composer.cut }

/-- It is what the command makes of the machine before its parts are taken. -/
theorem State.expired_eq (s : State) (edge : Bool) :
    (if edge then s.enterSearch.setTiming s.enterSearch.timing.searchEdge else s.enterSearch) = s.expired edge := by
  rw [State.enterSearch_eq]
  cases edge <;> rfl

/-- Settles O20: the end of HOLDOVER, with an edge and without. -/
theorem holdoverExpires : Obligations.HoldoverExpires := by
  intro s edge hs hn he
  refine ⟨fun sch => ?_, ?_⟩
  · obtain ⟨q, n, f, h⟩ := (s.finish.expired edge).event_entry_frame .bare
      (some ⟨.search, .holdoverExpired, s.finish.now⟩) (FrameIn.ofList []) sch
    rw [exec_holdoverExpired hs hn he, State.expired_eq, State.bareEvent, h]
    exact ⟨_, rfl, rfl, pinsReleased_row, rfl, rfl⟩
  · rw [exec_holdoverExpired hs hn he, State.expired_eq]
    exact congrArg _ (State.event_reportLoss_whole _ _ _ _)

end Sys2Proof.Machine
end

section
/-! The effects of fenced requests, taken by their own commands and by the events that close the output frame (R17, R37,
R44, R179). -/

namespace Sys2Proof.Machine

/-! ## The state after an effect -/

/-- The machine after the effect of MOVE LINK (R37). -/
def State.movedLink (s : State) (inb outb : Slot) : State := { s with
  link := ⟨inb, outb⟩, executor := .idle, pins := s.pins.put s.link.outb none, parser := s.parser.lost
  notices := s.parser.lostNotice .linkMoved s.now s.notices }

/-- The machine after a format is adopted in SEARCH (R17). -/
def State.adopted (s : State) (f : Format) : State := { s with
  timing := { s.timing with format := f }, executor := .idle }

/-- The machine after a format change that enters SEARCH (R17). -/
def State.reformatted (s : State) (f : Format) : State := { s with
  timing := { s.timing.toSearch with format := f }, executor := .idle, pins := pinsReleased
  mixer := { s.mixer with flight := none }, composer := s.composer.cut }

section
variable {s : State} {tag : Tag} (d : FrameCtx)

/-- The effect of MOVE LINK (R37, R44). -/
theorem State.takeEffect_moveLink {inb outb : Slot} (h : s.executor = .fenced tag (.moveLink inb outb) true) :
    (s.setFrame (some d)).takeEffect = (s.movedLink inb outb).setFrame (some { d with entry := none }) := by
  simp only [State.takeEffect, State.setFrame_executor, h, State.moveLink, State.abandon_clear]
  rfl

/-- The effect of SET FRAME FORMAT in SEARCH (R17, R44). -/
theorem State.takeEffect_adopt {f : Format} (h : s.executor = .fenced tag (.setFormat f) true)
    (hs : s.timing.state = .search) :
    (s.setFrame (some d)).takeEffect = (s.adopted f).setFrame (some { d with entry := none }) := by
  simp only [State.takeEffect, State.setFrame_executor, h, State.changeFormat]
  exact if_pos hs

/-- The effect of SET FRAME FORMAT outside SEARCH (R17, R44). -/
theorem State.takeEffect_reformat {f : Format} (h : s.executor = .fenced tag (.setFormat f) true)
    (hs : s.timing.state ≠ .search) : (s.setFrame (some d)).takeEffect =
      (s.reformatted f).setFrame (some { d with entry := some ⟨.search, .formatChange, s.now⟩ }) := by
  simp only [State.takeEffect, State.setFrame_executor, h, State.changeFormat, State.enterSearch_eq]
  exact if_neg hs

/-- The effect of RESET FULL (R44, R179). -/
theorem State.takeEffect_resetFull (h : s.executor = .fenced tag .resetFull true) :
    (s.setFrame (some d)).takeEffect = s.fullReset.setFrame (some { d with entry := none }) := by
  simp only [State.takeEffect, State.setFrame_executor, h]
  rfl

end

/-! ## An effect taken by its own command -/

/-- An effect that is taken while it is the next leaves what it leaves, with the event over where nothing is to come. -/
theorem State.takeDue_effect {s u : State} {c d : FrameCtx} {due : State → FrameCtx → Bool} (h : s.atPhase c .effect)
    (hd : due s c = true)
    (he : (s.setFrame (some { c with todo := c.todo.erase .effect })).takeEffect = u.setFrame (some d)) :
    s.takeDue .effect due = u.setFrame d.left := by
  obtain ⟨hs, hp, hq⟩ := h
  have run : (s.setFrame (some { c with todo := c.todo.erase .effect })).runPhase .effect = u.setFrame (some d) := he
  rw [State.takeDue_of_ready hs hp hq hd, run, State.closeEvent_eq (State.setFrame_frame _ _)]
  rfl

/-- An event with a part to come is left open. -/
theorem FrameCtx.left_of_mem {c : FrameCtx} {p : Phase} (h : p ∈ c.todo) : c.left = some c :=
  if_neg (List.ne_nil_of_mem h)

end Sys2Proof.Machine
end

section
/-! Each effect taken by its own command. -/

namespace Sys2Proof.Machine

/-- What RESET FULL leaves (R150, R178, R179). -/
theorem State.fullReset_eq (s : State) : s.fullReset = { s with
    timing := { s.timing with lockLosses := 0, searchEntries := 0 }, parser := Parser.reset, cmdq := []
    executor := .idle, replies := ReplyQueue.reset, notices := NoticeSide.reset
    composer := { s.composer with lastReply := false }, staged := Table.tab fun _ => Staged.reset
    active := Table.tab fun _ => Active.reset, commit := none, groups := Table.tab fun _ => Group.reset
    mixer := { Mixer.reset with flight := s.mixer.flight }, regions := Table.tab fun _ => none
    capture := s.capture.fullReset, players := Table.tab fun _ => Player.reset
    watches := Table.tab fun _ => Watch.reset } := by
  simp only [State.fullReset, State.clearRoutes, State.clearMixer, State.setCapture, State.setPlayers, State.setRegions,
    State.setCmdq, State.setReplies, State.setExecutor, State.setCommit, State.setNotices, State.setComposer,
    State.setParser, State.setTiming, State.setWatches, State.setStaged, State.setActive, State.setGroups,
    State.setMixer]

section
variable {s : State} {c : FrameCtx} {tag : Tag} (hat : s.atPhase c .effect)
include hat

/-- MOVE_LINK_EFFECT at its close (R37, R44). -/
theorem exec_moveLinkEffect {inb outb : Slot} (hx : s.executor = .fenced tag (.moveLink inb outb) true) :
    exec .moveLinkEffect s = .next ((s.movedLink inb outb).setFrame
      { c with entry := none, todo := c.todo.erase .effect }.left) := by
  have due : moveDue s c = true := by simp only [moveDue, State.dueEffect, hx]
  exact congrArg Host.Outcome.next (State.takeDue_effect hat due (State.takeEffect_moveLink _ hx))

/-- FORMAT_CHANGE_EFFECT at a close in SEARCH (R17, R44). -/
theorem exec_formatChangeEffect_search {f : Format} (hx : s.executor = .fenced tag (.setFormat f) true)
    (hs : s.timing.state = .search) : exec .formatChangeEffect s = .next ((s.adopted f).setFrame
      { c with entry := none, todo := c.todo.erase .effect }.left) := by
  have due : formatDue s c = true := by simp only [formatDue, State.dueEffect, hx]
  exact congrArg Host.Outcome.next (State.takeDue_effect hat due (State.takeEffect_adopt _ hx hs))

/-- FORMAT_CHANGE_EFFECT at a close outside SEARCH (R17, R44). -/
theorem exec_formatChangeEffect_enters {f : Format} (hx : s.executor = .fenced tag (.setFormat f) true)
    (hs : s.timing.state ≠ .search) : exec .formatChangeEffect s = .next ((s.reformatted f).setFrame
      { c with entry := some ⟨.search, .formatChange, s.now⟩, todo := c.todo.erase .effect }.left) := by
  have due : formatDue s c = true := by simp only [formatDue, State.dueEffect, hx]
  exact congrArg Host.Outcome.next (State.takeDue_effect hat due (State.takeEffect_reformat _ hx hs))

/-- RESET_FULL_EFFECT at its close (R44, R179). -/
theorem exec_resetFullEffect (hx : s.executor = .fenced tag .resetFull true) :
    exec .resetFullEffect s = .next (s.fullReset.setFrame
      { c with entry := none, todo := c.todo.erase .effect }.left) := by
  have due : fullResetDue s c = true := by simp only [fullResetDue, State.dueEffect, hx, beq_self_eq_true]
  exact congrArg Host.Outcome.next (State.takeDue_effect hat due (State.takeEffect_resetFull _ hx))

end

/-- A part other than the effect that is to come at a close is to come after the effect too. -/
theorem left_of_mem_erase {c : FrameCtx} {p : Phase} (e : Option Entry) (hp : p ∈ c.todo) (hne : p ≠ .effect) :
    { c with entry := e, todo := c.todo.erase .effect }.left =
      some { c with entry := e, todo := c.todo.erase .effect } :=
  FrameCtx.left_of_mem (p := p) ((List.mem_erase_of_ne hne).mpr hp)

/-- Settles O28: each effect taken at its close by its own command. -/
theorem effectsFollowTheirEvent : Obligations.EffectsFollowTheirEvent := by
  intro s c tag hat
  refine ⟨fun inb outb hx => exec_moveLinkEffect hat hx, fun f hx => ?_, fun hx => ?_⟩
  · by_cases hs : s.timing.state = .search
    · refine ⟨_, exec_formatChangeEffect_search hat hx hs, rfl, hs, rfl, rfl, rfl, rfl, rfl, rfl, (if_pos hs).symm, ?_,
        fun hn => absurd hs hn, fun _ => ⟨rfl, rfl, rfl, rfl, fun hp => ?_, fun hp => ?_⟩⟩
      · rw [if_pos hs]; rfl
      all_goals exact State.runPhase_no_entry (left_of_mem_erase none hp (by decide)) rfl _ (by simp)
    · refine ⟨_, exec_formatChangeEffect_enters hat hx hs, rfl, rfl, rfl, rfl, rfl, rfl, rfl, rfl, (if_neg hs).symm, ?_,
        fun _ => ⟨pinsReleased_row, rfl, rfl, rfl, rfl, rfl, rfl, rfl, fun hp => ?_, fun hp => ?_⟩,
        fun h => absurd h hs⟩
      · rw [if_neg hs]; rfl
      · have post := State.runPhase_notice (s := (s.reformatted f).setFrame _)
          (e := ⟨.search, .formatChange, s.now⟩) (left_of_mem_erase _ hp (by decide)) rfl .effectNotice (by simp)
        exact congrArg (·.notices) post
      · have lost := State.runPhase_lost (s := (s.reformatted f).setFrame _)
          (e := ⟨.search, .formatChange, s.now⟩) (left_of_mem_erase _ hp (by decide)) rfl .effectParser (by simp)
        exact ⟨congrArg (·.parser) lost, congrArg (·.notices) lost⟩
  · have taken := exec_resetFullEffect hat hx
    rw [State.fullReset_eq] at taken
    refine ⟨_, taken, rfl, rfl, rfl, rfl, rfl, rfl, rfl, rfl, rfl, rfl, rfl, rfl, rfl, rfl, rfl,
      fun id => Table.row_tab (fun _ => none) id, ?_, fun p => Table.row_tab (fun _ => Player.reset) p,
      fun w => Table.row_tab (fun _ => Watch.reset) w, fun g => Table.row_tab (fun _ => Group.reset) g, fun i => ?_⟩
    · show s.capture.fullReset = _
      simp only [Capture.fullReset]
      split <;> rfl
    · simp [Mixer.reset, Staged.reset, Active.reset]

end Sys2Proof.Machine
end

section
/-! The events of the timing unit that close the output frame of a fenced reply's trailer, taken whole. -/

namespace Sys2Proof.Machine

/-! ## What follows an effect -/

/-- With no request waiting there is nothing to take from the queue (R41). -/
theorem State.drain_empty {s : State} (n : Nat) (h : s.cmdq = []) : s.drain n = s := by
  cases n with
  | zero => rfl
  | succ n => cases hx : s.executor <;> simp only [State.drain, h, hx]

/-- With no request waiting the takings as the fence lifts do nothing (R41, R44). -/
theorem State.finish_drains {s : State} (c : FrameCtx) (h : s.cmdq = []) (k : Nat) :
    (s.setFrame (some { c with todo := List.replicate k .drain })).finish = s.setFrame none := by
  induction k with
  | zero => exact s.finish_nil c
  | succ k ih =>
    have taken : (s.setFrame (some { c with todo := List.replicate k .drain })).runPhase .drain =
        s.setFrame (some { c with todo := List.replicate k .drain }) := State.drain_empty 1 h
    rw [List.replicate_succ, State.finish_front, taken, ih]

/-- An effect that made no state entry is followed by nothing more. -/
theorem State.finish_quietEffect {s : State} {c : FrameCtx} (h : s.cmdq = []) (he : c.entry = none) :
    (s.setFrame (some { c with todo := effectParts.tail })).finish = s.setFrame none := by
  have post : (s.setFrame (some { c with todo := effectParts.tail.tail })).runPhase .effectNotice =
      s.setFrame (some { c with todo := effectParts.tail.tail }) :=
    State.runPhase_no_entry (c := { c with todo := effectParts.tail.tail }) rfl he .effectNotice (by simp)
  have lost : (s.setFrame (some { c with todo := List.replicate 4 .drain })).runPhase .effectParser =
      s.setFrame (some { c with todo := List.replicate 4 .drain }) :=
    State.runPhase_no_entry (c := { c with todo := List.replicate 4 .drain }) rfl he .effectParser (by simp)
  calc (s.setFrame (some { c with todo := effectParts.tail })).finish
    _ = ((s.setFrame (some { c with todo := effectParts.tail.tail })).runPhase .effectNotice).finish :=
      s.finish_front c _ _
    _ = ((s.setFrame (some { c with todo := List.replicate 4 .drain })).runPhase .effectParser).finish := by
      rw [post]; exact s.finish_front c _ _
    _ = s.setFrame none := by rw [lost, s.finish_drains c h]

/-- An effect that entered SEARCH is followed by the report of that entry (R17, R29). -/
theorem State.finish_effectEntry {s : State} {c : FrameCtx} {e : Entry} (h : s.cmdq = []) (he : c.entry = some e) :
    (s.setFrame (some { c with todo := effectParts.tail })).finish = (s.reportLoss e).setFrame none := by
  have post : (s.setFrame (some { c with todo := effectParts.tail.tail })).runPhase .effectNotice =
      (s.post (s.entryNotice e)).setFrame (some { c with todo := effectParts.tail.tail }) :=
    State.runPhase_notice (c := { c with todo := effectParts.tail.tail }) rfl he .effectNotice (by simp)
  have lost : ((s.post (s.entryNotice e)).setFrame (some { c with todo := List.replicate 4 .drain })).runPhase
      .effectParser =
      (s.reportLoss e).setFrame (some { c with todo := List.replicate 4 .drain }) :=
    State.runPhase_lost (c := { c with todo := List.replicate 4 .drain }) rfl he .effectParser (by simp)
  calc (s.setFrame (some { c with todo := effectParts.tail })).finish
    _ = ((s.setFrame (some { c with todo := effectParts.tail.tail })).runPhase .effectNotice).finish :=
      s.finish_front c _ _
    _ = (((s.post (s.entryNotice e)).setFrame (some { c with todo := List.replicate 4 .drain })).runPhase
        .effectParser).finish := by
      rw [post]; exact (s.post (s.entryNotice e)).finish_front c _ _
    _ = (s.reportLoss e).setFrame none := by rw [lost, (s.reportLoss e).finish_drains c h]

/-- The machine once a fenced request's effect has been taken with what follows it, and no request waited. -/
def State.closed (s : State) : Effect → State
  | .moveLink inb outb => s.movedLink inb outb
  | .setFormat f =>
    if s.timing.state = .search then s.adopted f
    else (s.reformatted f).reportLoss ⟨.search, .formatChange, s.now⟩
  | .resetFull => s.fullReset

/-- An event of which only a fenced request's effect is still to come, taken to its end (R17, R37, R44, R179). -/
theorem State.finish_closed {s : State} {c : FrameCtx} {tag : Tag} {eff : Effect}
    (hx : s.executor = .fenced tag eff true) (hq : s.cmdq = []) (hc : c.todo = effectParts) :
    (s.setFrame (some c)).finish = (s.closed eff).setFrame none := by
  have taken : (s.setFrame (some c)).finish =
      (s.setFrame (some { c with todo := effectParts.tail })).takeEffect.finish :=
    State.finish_take (State.setFrame_frame _ _) hc
  rw [taken]
  cases eff with
  | moveLink inb outb =>
    rw [State.takeEffect_moveLink _ hx]
    exact State.finish_quietEffect (s := s.movedLink inb outb) (c := { c with entry := none }) hq rfl
  | setFormat f =>
    simp only [State.closed]
    split
    · rename_i hs
      rw [State.takeEffect_adopt _ hx hs]
      exact State.finish_quietEffect (s := s.adopted f) (c := { c with entry := none }) hq rfl
    · rename_i hs
      rw [State.takeEffect_reformat _ hx hs]
      exact State.finish_effectEntry (s := s.reformatted f)
        (c := { c with entry := some ⟨.search, .formatChange, s.now⟩ }) hq rfl
  | resetFull =>
    rw [State.takeEffect_resetFull _ hx]
    have hq' : s.fullReset.cmdq = [] := by rw [State.fullReset_eq]
    exact State.finish_quietEffect (s := s.fullReset) (c := { c with entry := none }) hq' rfl

/-- Nothing must come before an effect but parts that have been taken (R17, R37, R44, R179). -/
theorem effectParts_ready : ∀ q ∈ effectParts, q.mustPrecede .effect = false := by decide

/-- Released lanes stay released where one pin is released again. -/
theorem released_put (i j : Slot) : (pinsReleased.put i none).row j = none := by
  rw [Table.row_put, pinsReleased_row]
  split <;> rfl

/-! ## An edge away from an expected point -/

/-- The machine once an edge away from an expected point of HOLDOVER has entered CONFIRM (R10, R13, R110). -/
def State.offPosition (s : State) : State := (s.setTiming s.timing.toConfirm).releaseLanes

/-- Settles O19: CONFIRM entered from HOLDOVER, with a fenced effect and without. -/
theorem offPositionEdgeEntersConfirm : Obligations.OffPositionEdgeEntersConfirm := by
  intro s pos hs h0 hp entered
  have opens : ∀ sch, exec (.offPositionEdge pos sch) s =
      .next (s.finish.offPosition.bareEvent none s.finish.closePhases sch) := fun sch => exec_offPositionEdge hs h0 hp
  refine ⟨fun sch hclose => ?_, fun tag eff hx => ?_⟩
  · rw [opens, State.closePhases_eq, hclose]
    exact congrArg _ (State.event_nil _ _ _ _ _)
  have hclose : s.finish.closePhases = effectParts := by
    rw [State.closePhases_eq, State.closing_iff.mpr ⟨tag, eff, hx⟩]; rfl
  have whole : exec (.offPositionEdge pos {}) s = .next (s.finish.offPosition.setFrame
      (some (s.finish.offPosition.handOver .bare none (FrameIn.ofList []) effectParts))).finish := by
    rw [opens, hclose]
    exact congrArg _ (State.event_whole _ _ _ _ _ _)
  refine ⟨⟨_, _, ?_, rfl, rfl, rfl, by simp [State.handOver], effectParts_ready⟩, fun hq => ?_⟩
  · rw [opens, hclose]
    exact congrArg _ (State.event_handsOver (by rfl) (by rfl) (by rfl) _ _ _ (by simp) (by simp))
  refine ⟨_, whole, ?_⟩
  rw [State.finish_closed (s := s.finish.offPosition) hx hq rfl]
  cases eff with
  | moveLink inb outb =>
    refine ⟨rfl, rfl, fun i => released_put _ i, rfl, ?_, by simp, by simp⟩
    rintro _ _ ⟨⟩
    rfl
  | setFormat f =>
    refine ⟨rfl, rfl, pinsReleased_row, rfl, by simp, ?_, by simp⟩
    rintro _ ⟨⟩
    rfl
  | resetFull =>
    rw [State.closed, State.fullReset_eq]
    exact ⟨rfl, rfl, pinsReleased_row, rfl, by simp, by simp, fun _ => ⟨rfl, rfl, rfl, rfl, rfl, rfl⟩⟩

/-! ## The bit clock's absence -/

/-- The machine once the absence of the bit clock has entered SEARCH (R11, R13, R15, R32, R110). -/
def State.clockLost (s : State) : State := { s with
  timing := s.timing.loseClock.toSearch, pins := pinsReleased, mixer := { s.mixer with flight := none }
  composer := s.composer.cut }

/-- The entry to SEARCH that an absence reports (R14). -/
abbrev State.absence (s : State) : Entry := ⟨.search, .clockAbsent, s.now⟩

/-- Settles O21: the absence in SEARCH and outside it, with a fenced effect and without, and its end. -/
theorem bitClockAbsence : Obligations.BitClockAbsence := by
  intro s lost entered reported
  refine ⟨fun sch hc hs => exec_clockAbsent_search hc hs, fun hc hs => ?_, fun sch hc => exec_clockAbsent_again hc,
    fun hc => exec_bclkReturn hc⟩
  have opens : ∀ sch, exec (.clockAbsent sch) s = .next (s.finish.clockLost.bareEvent (some s.finish.absence)
      ([.entryNotice, .entryParser] ++ s.finish.closePhases) sch) := by
    intro sch
    rw [exec_clockAbsent hc hs, State.enterSearch_eq]
    rfl
  refine ⟨fun hclose => ?_, fun tag eff hx => ?_⟩
  · have hnil : s.finish.closePhases = [] := by rw [State.closePhases_eq, hclose]; rfl
    simp only [opens, hnil]
    refine ⟨congrArg _ (State.event_reportLoss_whole _ _ _ _), fun sch => ?_⟩
    obtain ⟨q, n, f, h⟩ := s.finish.clockLost.event_entry_frame .bare (some s.finish.absence) (FrameIn.ofList []) sch
    exact ⟨_, congrArg Host.Outcome.next h, rfl⟩
  have hclose : s.finish.closePhases = effectParts := by
    rw [State.closePhases_eq, State.closing_iff.mpr ⟨tag, eff, hx⟩]; rfl
  have whole : exec (.clockAbsent {}) s = .next ((s.finish.clockLost.reportLoss s.finish.absence).setFrame
      (some (s.finish.clockLost.handOver .bare (some s.finish.absence) (FrameIn.ofList []) effectParts))).finish := by
    rw [opens, hclose]
    refine congrArg _ ((State.event_reportLoss _ _ _ _ (Nat.zero_le _)).trans ?_)
    exact State.runWhile_eq_finish (fun p rest => by simp) (Nat.lt_succ_self _)
  refine ⟨⟨_, _, ?_, rfl, rfl, rfl, by simp [State.handOver], effectParts_ready⟩, fun hq => ⟨_, whole, ?_⟩⟩
  · rw [opens, hclose]
    exact congrArg _ (State.event_reportLoss_open _ _ _ _ (by simp))
  rw [State.finish_closed (s := s.finish.clockLost.reportLoss s.finish.absence) hx hq rfl]
  cases eff with
  | moveLink inb outb =>
    refine ⟨rfl, rfl, fun i => released_put _ i, rfl, ?_, by simp, by simp⟩
    rintro _ _ ⟨⟩
    rfl
  | setFormat f =>
    refine ⟨rfl, rfl, pinsReleased_row, rfl, by simp, ?_, by simp⟩
    rintro _ ⟨⟩
    rfl
  | resetFull =>
    rw [State.closed, State.fullReset_eq]
    exact ⟨rfl, rfl, pinsReleased_row, rfl, by simp, by simp, fun _ => ⟨rfl, rfl, rfl, rfl, rfl, rfl⟩⟩

end Sys2Proof.Machine
end

section
/-! The four commands that declare a frame, and the parts of an open event. -/

namespace Sys2Proof.Machine

/-- The four commands that declare a frame, each with the inputs given, in the states in which they fall. -/
abbrev Declares (s : State) (cmd : Sched → Instr) (inp : FrameIn) : Prop :=
  (cmd = .frameArrival inp ∧ s.finish.timing.state = .locked) ∨
  (cmd = .fsyncMissing inp ∧ s.finish.timing.state = .locked) ∨
  (∃ edge, cmd = .emittedFrame edge inp ∧ s.finish.timing.state = .holdover ∧
    s.finish.timing.holdoverCount < 16 ∧ (edge = true → s.finish.timing.returnRun = false)) ∨
  (cmd = .holdoverReturn inp ∧ s.finish.timing.state = .holdover ∧ s.finish.timing.returnRun = true)

/-- Each of them is an event of at most 64 parts at the next frame number (R8, R9, R10, R12). -/
theorem declares_event {s : State} {cmd : Sched → Instr} {inp : FrameIn} (h : Declares s cmd inp) :
    ∃ (u : State) (kind : FrameKind) (entry : Option Entry) (phases : List Phase),
      u.now = s.finish.now + 1 ∧ 0 < phases.length ∧ phases.length ≤ 64 ∧
        ∀ sch, exec (cmd sch) s = .next (u.event kind entry inp phases sch) := by
  obtain ⟨ha, ha64⟩ := s.finish.framePhases_length true
  obtain ⟨he, he64⟩ := s.finish.framePhases_length false
  obtain ⟨rfl, hs⟩ | ⟨rfl, hs⟩ | ⟨edge, rfl, hs, hn, hr⟩ | ⟨rfl, hs, hr⟩ := h
  · exact ⟨_, _, _, _, by rfl, ha, by omega, fun sch => exec_frameArrival hs⟩
  · exact ⟨_, _, _, _, by rw [State.markRestart_eq]; rfl, by simp, by
      simp only [List.length_append, List.length_cons, List.length_nil]; omega,
      fun sch => exec_fsyncMissing hs⟩
  · exact ⟨_, _, _, _, by rfl, he, by omega, fun sch => exec_emittedFrame hs hn hr⟩
  · exact ⟨_, _, _, _, by rfl, by simp, by simp only [List.length_cons]; omega, fun sch => exec_holdoverReturn hs hr⟩

/-- With no fenced reply's trailer sent there is no effect to take (R44). -/
theorem State.takeEffect_idle {s : State} (h : ∀ tag eff, s.executor ≠ .fenced tag eff true) : s.takeEffect = s := by
  unfold State.takeEffect
  split
  · rename_i tag eff hx
    exact absurd hx (h tag eff)
  · rfl

/-- A command for the part that is next takes it, or does nothing (assumption 4). -/
theorem State.takeDue_cases {s : State} {c : FrameCtx} {p : Phase} (h : s.atPhase c p) (due : State → FrameCtx → Bool) :
    s.takeDue p due = s ∨ s.takeDue p due = ((s.took c p).runPhase p).closeEvent := by
  obtain ⟨hs, hp, hq⟩ := h
  cases hd : due s c with
  | true => exact .inr (State.takeDue_of_ready hs hp hq hd)
  | false => exact .inl (by simp [State.takeDue, State.upTo_of_ready hs hp hq, hs, hd])

/-- Settles O17: the four commands, the parts of an event one after another, and each part by itself. -/
theorem declaredFramesComplete : Obligations.DeclaredFramesComplete := by
  refine ⟨fun s cmd inp h => ?_, fun s c hs => ⟨fun hc => ?_, fun p rest hc => ?_⟩, fun s c hs => ?_,
    fun s c i p hat hip => ?_⟩
  · obtain ⟨u, kind, entry, phases, hnow, h0, h64, hexec⟩ := declares_event h
    refine ⟨fun sch => ⟨_, hexec sch, (u.now_event _ _ _ _ _).trans hnow, u.event_frame _ _ _ _ _⟩, fun first => ?_⟩
    refine ⟨_, hexec _, ?_⟩
    rw [hexec, u.event_whole, u.event_keep _ _ _ _ ⟨first, 64⟩ h0 h64]
    rfl
  · exact ⟨State.finish_over hs hc, by rw [State.closeEvent_eq hs, FrameCtx.left, if_pos hc]⟩
  · refine ⟨State.finish_take hs hc, ?_⟩
    rw [State.closeEvent_eq hs, FrameCtx.left_of_mem (p := p) (by simp [hc]), ← hs]
    rfl
  · refine ⟨fun g => ?_, ?_, fun p => ?_, ?_, ?_, fun w => ?_, ?_, ?_, ?_, fun hx => ?_,
      State.runPhase_no_entry hs, fun e he => ⟨State.runPhase_notice hs he, State.runPhase_lost hs he⟩⟩
    case refine_10 => simp only [State.runPhase, hs, State.takeEffect_idle hx]
    all_goals simp only [State.runPhase, hs]
  · have taken : ∀ due, Host.Outcome.next (ρ := Refusal) (φ := Fault) (s.takeDue p due) = .next s ∨
        Host.Outcome.next (ρ := Refusal) (φ := Fault) (s.takeDue p due) =
          .next ((s.took c p).runPhase p).closeEvent := fun due =>
      (State.takeDue_cases hat due).imp (congrArg _) (congrArg _)
    simp only [List.mem_cons, Prod.mk.injEq, List.not_mem_nil, or_false] at hip
    obtain (⟨rfl, rfl⟩ | ⟨rfl, rfl⟩ | ⟨rfl, rfl⟩ | ⟨rfl, rfl⟩ | ⟨rfl, rfl⟩ | ⟨rfl, rfl⟩ | ⟨rfl, rfl⟩ | ⟨rfl, rfl⟩ |
      ⟨rfl, rfl⟩ | ⟨rfl, rfl⟩) | ⟨g, rfl, rfl⟩ := hip
    all_goals exact taken _

end Sys2Proof.Machine
end

section
/-! The management outbound slot, the mixer's computation and the audio slots of an output frame. -/

namespace Sys2Proof.Machine

/-! ## The composer's words -/

/-- A word of a message in progress that is not its trailer (R31). -/
theorem State.sendWord_more {s : State} {m : OutMessage} {i : Nat} (h : i + 1 < m.words.length) :
    s.sendWord m i =
      (s.setComposer { s.composer with message := some { m with sent := i + 1 }, restart := false },
        m.words.getD i 0) := by
  simp only [State.sendWord, if_neg (Nat.not_le.mpr h)]
  rfl

/-- The trailer of a notice (R31). -/
theorem State.sendWord_notice {s : State} {m : OutMessage} {i : Nat} (h : m.words.length = i + 1)
    (hm : m.isReply = false) :
    s.sendWord m i = (s.setComposer { s.composer with message := none, restart := false }, m.words.getD i 0) := by
  simp only [State.sendWord, if_pos h.le, hm]
  rfl

/-- The trailer of a reply (R31, R44, R48). -/
theorem State.sendWord_reply {s : State} {m : OutMessage} {i : Nat} (h : m.words.length = i + 1)
    (hm : m.isReply = true) :
    s.sendWord m i =
      ((s.setComposer { s.composer with message := none, restart := false }).freePlace, m.words.getD i 0) := by
  simp only [State.sendWord, if_pos h.le, hm]
  rfl

/-- The Executor once the trailer of reply `r` has been sent: a fence that waited for it waits for the close of the
output frame (R44). -/
def Executor.afterTrailer (e : Executor) (r : Reply) : Executor :=
  match e with
  | .fenced tag eff false => if r.refusal = false ∧ r.tag = tag then .fenced tag eff true else .fenced tag eff false
  | e => e

/-- A reply's place becomes FREE (R44, R48). -/
theorem State.freePlace_cons {s : State} {r : Reply} {rest : List Reply} (h : s.replies.ready = r :: rest) :
    s.freePlace = (s.setReplies { s.replies with ready := rest }).setExecutor (s.executor.afterTrailer r) := by
  cases hx : s.executor with
  | idle => simp only [State.freePlace, h, State.setReplies, hx, Executor.afterTrailer, State.setExecutor]
  | fenced tag eff out =>
    cases out with
    | true => simp only [State.freePlace, h, State.setReplies, hx, Executor.afterTrailer, State.setExecutor]
    | false =>
      by_cases hr : r.refusal = false ∧ r.tag = tag
      · simp only [State.freePlace, h, State.setReplies, hx, Executor.afterTrailer, State.setExecutor, if_pos hr]
      · simp only [State.freePlace, h, State.setReplies, hx, Executor.afterTrailer, State.setExecutor, if_neg hr]

/-- The composer's word leaves the timing unit, the link and the pins as they are. -/
theorem State.nextWord_keeps (s : State) : s.nextWord.1.timing = s.timing ∧ s.nextWord.1.link = s.link ∧
    s.nextWord.1.pins = s.pins := by
  obtain ⟨k, r, n, e, h⟩ := s.nextWord_frame
  rw [h]
  exact ⟨rfl, rfl, rfl⟩

/-- A word placed in a management outbound slot that is driven (R13). -/
theorem State.putWord_driven {s : State} (w : LinkBits) (hd : s.timing.state.driving = true)
    (hl : laneOn s.timing.outLanes s.link.outb = true) (hp : s.timing.format.present s.link.outb = true) :
    s.putWord w = s.setPins (s.pins.put s.link.outb (some w)) := by
  simp only [State.putWord, State.outEnabled, hd, hl, hp, Bool.and_self, if_true]

/-- Settles O31: the words of a message in progress, and the management outbound slot in each timing state. -/
theorem composerPlacesItsWords : Obligations.ComposerPlacesItsWords := by
  refine ⟨fun s m hm => ⟨fun h => ?_, fun h hr => ?_, fun h hr r rest hready => ?_⟩,
    fun s hl hp => ⟨fun hs => ?_, fun hs => ?_, fun hs => ?_⟩⟩
  · simp only [State.nextWord, hm]
    exact State.sendWord_more h
  · simp only [State.nextWord, hm]
    exact State.sendWord_notice h hr
  · simp only [State.nextWord, hm]
    have freed := State.freePlace_cons
      (s := s.setComposer { s.composer with message := none, restart := false }) hready
    exact (State.sendWord_reply h hr).trans (congrArg (·, _) freed)
  · obtain ⟨ht, hk, hpins⟩ := s.nextWord_keeps
    have hput := State.putWord_driven (s := s.nextWord.1) s.nextWord.2 (by rw [ht, hs]; rfl) (by rw [ht, hk]; exact hl)
      (by rw [ht, hk]; exact hp)
    rw [hk, hpins] at hput
    simp only [State.emitWord, hs]
    exact hput
  · simp only [State.emitWord, hs]
    exact State.putWord_driven _ (by rw [hs]; rfl) hl hp
  · obtain hs | hs := hs <;> simp only [State.emitWord, hs]

/-! ## What a source gives for a frame -/

/-- A source number of an input slot gives the slot's value (R105). -/
theorem FrameCtx.source_input (c : FrameCtx) (i : Slot) : c.source (i.setWidth 7) = c.inputs.row i := by
  have hlt : (i.setWidth 7).toNat < 64 := by
    rw [BitVec.toNat_setWidth]
    have := i.isLt
    omega
  have hback : (i.setWidth 7).setWidth 6 = i := by
    apply BitVec.eq_of_toNat_eq
    simp only [BitVec.toNat_setWidth]
    have := i.isLt
    omega
  rw [FrameCtx.source, if_pos hlt, hback]

/-- Source numbers 64 and 65 give the samples the players handed over (R105). -/
theorem FrameCtx.source_player (c : FrameCtx) (p : PlayerNo) : c.source (64 + p.setWidth 7) = c.given.row p := by
  obtain rfl | rfl : p = 0 ∨ p = 1 := by decide +revert
  · rfl
  · rfl

end Sys2Proof.Machine
end

section
/-! The mixer's computation of a declared frame (R105 to R110). -/

namespace Sys2Proof.Machine

/-- The numbers of a table are listed in rising order. -/
theorem numbers_rising (k : Nat) : (Table.numbers k).Pairwise fun i j => i.toNat < j.toNat := by
  refine List.pairwise_map.mpr (List.pairwise_lt_range.imp_of_mem fun ha hb hab => ?_)
  simpa [Nat.mod_eq_of_lt (List.mem_range.mp ha), Nat.mod_eq_of_lt (List.mem_range.mp hb)] using hab

/-! ## Sums and saturation -/

/-- A computation is made for a DRIVEN entry at an arrival, and at an emitted frame where it is LIVE (R106). -/
theorem Active.computed_iff {kind : FrameKind} {e : Active} : e.computed kind = true ↔
    e.drive = .driven ∧ (kind = .arrival ∨ (kind = .emitted ∧ e.hold = .live)) := by
  simp [Active.computed]

/-- The sum of a computed entry. -/
theorem State.sums_computed {s : State} {c : FrameCtx} {i : Slot} (h : (s.active.row i).computed c.kind = true) :
    (s.sums c).row i = some ((s.active.row i).sum c.source) := by
  simp [State.sums, h]

/-- No sum is made for an entry that is not computed. -/
theorem State.sums_not_computed {s : State} {c : FrameCtx} {i : Slot} (h : ¬ (s.active.row i).computed c.kind = true) :
    (s.sums c).row i = none := by
  simp [State.sums, h]

/-- A saturated sum is a sample (R107). -/
theorem toInt_saturate (x : Int) : (BitVec.ofInt 24 (saturate x)).toInt = saturate x := by
  have bounds : -8388608 ≤ saturate x ∧ saturate x < 8388608 := by
    simp only [saturate]
    split
    · decide
    · split
      · decide
      · omega
  exact BitVec.toInt_ofInt_eq_self (by decide) bounds.1 bounds.2

/-! ## The postings of CLIP -/

/-- The saturation changed the sum of slot `i`, and its clip count stood at 0 (R108). -/
def clipsAfresh (sums : Table 6 (Option Int)) (old : Table 6 (BitVec 16)) (i : Slot) : Bool :=
  ((sums.row i).any fun x => decide (saturate x ≠ x)) && old.row i == 0

/-- A slot posts CLIP where it clips afresh (R108). -/
theorem State.postClip_eq (sums : Table 6 (Option Int)) (old : Table 6 (BitVec 16)) (s : State) (i : Slot) :
    s.postClip sums old i = if clipsAfresh sums old i then s.post (.clip s.now [i] 0) else s := by
  cases h : sums.row i with
  | none => simp only [State.postClip, clipsAfresh, h, Option.any_none, Bool.false_and, Bool.false_eq_true, if_false]
  | some x =>
    simp only [State.postClip, clipsAfresh, h, Option.any_some, Bool.and_eq_true, decide_eq_true_eq, beq_iff_eq]

/-- The slots that clip afresh post CLIP one after another (R108). -/
theorem State.postClips_notices (sums : Table 6 (Option Int)) (old : Table 6 (BitVec 16)) (l : List Slot) (s : State) :
    (l.foldl (State.postClip sums old) s).notices =
      (l.filter (clipsAfresh sums old)).foldl (fun n i => n.post (.clip s.now [i] 0)) s.notices := by
  induction l generalizing s with
  | nil => rfl
  | cons i l ih =>
    rw [List.foldl_cons, ih, State.postClip_eq]
    cases h : clipsAfresh sums old i with
    | true => rw [List.filter_cons_of_pos h, List.foldl_cons]; rfl
    | false => rw [List.filter_cons_of_neg (by simp [h])]; rfl

/-- The notices after the mixer's computation (R108). -/
theorem State.mix_notices {s : State} (c : FrameCtx) (h : s.timing.state.driving = true) : (s.mix c).notices =
    ((Table.numbers 6).filter (clipsAfresh (s.sums c) s.mixer.clips)).foldl
      (fun n i => n.post (.clip s.now [i] 0)) s.notices := by
  simp only [State.mix, h, if_true, State.postClips_notices, State.now, State.setMixer_timing, State.setMixer_notices]

/-! ## The computation -/

/-- Settles O39: the sources of a frame, the sums in flight, the clip counts and the postings. -/
theorem computationOfAFrame : Obligations.ComputationOfAFrame := by
  refine ⟨?_, fun c => ⟨fun i => c.source_input i, fun p => ⟨c.source_player p, rfl⟩⟩, ?_⟩
  · intro s kind entry inp todo i c carried
    have hrow : c.inputs.row i = carried := by
      simp only [c, carried, State.handOver, Table.row_tab, laneOn, laneOf, Bool.and_eq_true,
        Format.present_iff]
    exact ⟨(c.source_input i).trans hrow, hrow⟩
  intro s c hs computed sum
  have hd : s.timing.state.driving = true := by obtain hs | hs := hs <;> rw [hs] <;> rfl
  obtain ⟨n, hmix⟩ := s.mix_frame c hd
  have hnotices := State.mix_notices c hd
  have hsum : ∀ i, computed i → (s.sums c).row i = some (sum i) := fun i hi =>
    State.sums_computed (Active.computed_iff.mpr hi)
  have hnone : ∀ i, ¬ computed i → (s.sums c).row i = none := fun i hi =>
    State.sums_not_computed fun h => hi (Active.computed_iff.mp h)
  rw [hmix] at hnotices ⊢
  refine ⟨_, rfl, rfl, fun i => ?_, fun i hi => ⟨?_, ?_⟩, fun i hi => ⟨?_, ?_⟩, rfl,
    ⟨_, (numbers_rising 6).filter _, fun i => ?_, hnotices⟩, rfl⟩
  · simp [State.flightOf]
  · exact ⟨_, by simp [State.flightOf, hsum i hi], toInt_saturate _⟩
  · simp only [Table.row_tab, hsum i hi, clipAfter]
    by_cases h : saturate (sum i) = sum i <;> simp [h]
  · simp [State.flightOf, hnone i hi]
  · simp only [Table.row_tab, hnone i hi, clipAfter]
  · simp only [List.mem_filter, Table.mem_numbers, true_and, clipsAfresh]
    by_cases hi : computed i
    · simp [hsum i hi, hi]
    · simp [hnone i hi, hi]

end Sys2Proof.Machine
end

section
/-! The audio slots of the output frame that begins (R110 to R114). -/

namespace Sys2Proof.Machine

section
variable {s : State} {i : Slot}

/-- The pins of an audio slot are the 24 bits it carries and eight zeros (R1, R110). -/
theorem State.beginOutput_pins (h : i ≠ s.link.outb) :
    s.beginOutput.pins.row i = (s.carried i).map fun p => p.1 ++ 0#8 := by
  simp [State.beginOutput, h]

/-- The last emitted value of a slot follows what it carries (R111). -/
theorem State.beginOutput_last : s.beginOutput.mixer.lastEmitted.row i =
    lastAfter (s.carried i) (s.mixer.lastEmitted.row i) := by
  simp [State.beginOutput]

/-- The emitted values handed over with the frame (R111). -/
theorem State.beginOutput_frame_eq {c : FrameCtx} (h : s.frame = some c) : s.beginOutput.frame =
    some { c with emitted := Table.tab fun j => ((s.carried j).map (·.1)).getD 0 } := by
  simp [State.beginOutput, h]

/-- A slot is enabled in the output frame where the lanes are driven, its lane is on and its position present (R13). -/
theorem State.outEnabled_iff : s.outEnabled i = true ↔ s.timing.state.driving = true ∧
    laneOn s.timing.outLanes i = true ∧ s.timing.format.present i = true := by
  simp only [State.outEnabled, Bool.and_eq_true, and_assoc]

/-- A slot that is not enabled is released (R13). -/
theorem State.carried_off (h : ¬ s.outEnabled i = true) : s.carried i = none := by
  simp [State.carried, h]

/-- With nothing in flight a DRIVEN slot carries 0, unrecorded (R13, R110). -/
theorem State.carried_zeros (hon : s.outEnabled i = true) (hi : i ≠ s.link.outb) (hf : s.mixer.flight = none) :
    s.carried i = if (s.active.row i).drive = .driven then some (0, false) else none := by
  simp [State.carried, hon, hi, hf]

/-- With nothing in flight nothing is recorded (R111). -/
theorem lastAfter_zeros (hf : s.mixer.flight = none) (last : Sample) : lastAfter (s.carried i) last = last := by
  simp only [State.carried, hf]
  repeat' split
  all_goals rfl

/-- A slot whose entry was RELEASED when the frame was declared is released (R63). -/
theorem State.carried_released {f : Flight} (hf : s.mixer.flight = some f) (hd : (f.slots.row i).drive = .released) :
    s.carried i = none := by
  simp [State.carried, hf, hd]

section
variable {f : Flight} (hon : s.outEnabled i = true) (hi : i ≠ s.link.outb) (hf : s.mixer.flight = some f)
  (hd : (f.slots.row i).drive = .driven)
include hon hi hf hd

/-- Outside a held frame, and with the policy LIVE, a DRIVEN slot carries its result (R110, R112). -/
theorem State.carried_result {v : Sample} (hv : (f.slots.row i).result = some v)
    (h : ¬ (f.held = true ∨ s.timing.state = .holdover) ∨ (f.slots.row i).hold = .live) :
    s.carried i = some (v, true) := by
  by_cases held : f.held = true ∨ s.timing.state = .holdover
  · simp [State.carried, hon, hi, hf, hd, hv, held, h.resolve_left fun hn => hn held]
  · simp [State.carried, hon, hi, hf, hd, hv, held]

/-- In a held frame with the policy REPEAT it carries its last emitted value (R113). -/
theorem State.carried_repeat (held : f.held = true ∨ s.timing.state = .holdover)
    (h : (f.slots.row i).hold = .repeatLast) : s.carried i = some (s.mixer.lastEmitted.row i, true) := by
  simp [State.carried, hon, hi, hf, hd, held, h]

/-- In a held frame with the policy ZERO it carries 0 (R114). -/
theorem State.carried_zero (held : f.held = true ∨ s.timing.state = .holdover) (h : (f.slots.row i).hold = .zero) :
    s.carried i = some (0, true) := by
  simp [State.carried, hon, hi, hf, hd, held, h]

end

end

/-- Settles O40: the pins, the last emitted values and the values handed over, from what each slot carries. -/
theorem outputFrameCarries : Obligations.OutputFrameCarries := by
  refine ⟨fun s c hc => ⟨_, State.beginOutput_frame_eq hc, rfl, fun i hi => ?_⟩, ?_⟩
  · rw [State.beginOutput_pins hi]
    simp only [FrameCtx.value, Table.row_tab]
    cases s.carried i with
    | none => rfl
    | some p => exact (BitVec.extractLsb'_append_eq_left (a := p.1) (b := 0#8)).symm
  intro s i hi on pin last
  have hon : on ↔ s.outEnabled i = true := State.outEnabled_iff.symm
  have hpin : pin = (s.carried i).map fun p => p.1 ++ 0#8 := State.beginOutput_pins hi
  have hlast : last = lastAfter (s.carried i) (s.mixer.lastEmitted.row i) := State.beginOutput_last
  rw [hpin, hlast]
  refine ⟨fun hoff => ?_, fun hf => ⟨lastAfter_zeros hf _, fun h hd => ?_, fun hd => ?_⟩,
    fun f hf => ⟨fun hd => ?_, ?_⟩⟩
  · rw [State.carried_off (fun h => hoff (hon.mpr h))]
    exact ⟨rfl, rfl⟩
  · rw [State.carried_zeros (hon.mp h) hi hf, if_pos hd]
    rfl
  · by_cases h : s.outEnabled i = true
    · rw [State.carried_zeros h hi hf, if_neg (by rw [hd]; decide)]
      rfl
    · rw [State.carried_off h]
      rfl
  · rw [State.carried_released hf hd]
    exact ⟨rfl, rfl⟩
  · intro h hd held
    have h' := hon.mp h
    refine ⟨fun v hv hlive => ?_, fun hheld hrep => ?_, fun hheld hzero => ?_⟩
    · rw [State.carried_result h' hi hf hd hv hlive]
      exact ⟨rfl, rfl⟩
    · rw [State.carried_repeat h' hi hf hd hheld hrep]
      exact ⟨rfl, rfl⟩
    · rw [State.carried_zero h' hi hf hd hheld hzero]
      exact ⟨rfl, rfl⟩

end Sys2Proof.Machine
end

section
/-! Requests taken at once, the fence, and what waits behind it (R16, R18, R36, R41 to R44, R55, R158, R178). -/

namespace Sys2Proof.Machine

/-! ## A request taken at once -/

/-- A sound request that is taken at once comes out as its own rule has it (R42). -/
theorem State.deliver_take {s : State} {code : Code} {tag : Tag} {body : List Payload} (h : s.takesAtOnce tag)
    (hc : 1 ≤ code.toNat ∧ code.toNat ≤ 32) : s.deliver code ⟨tag, false, body⟩ =
      (s.reserved tag code).complete tag (Queued.take ⟨tag, code, false, body⟩ (s.reserved tag code)) :=
  State.deliver_of_takesAtOnce (r := ⟨tag, false, body⟩) h hc

/-- A rule whose fields are read goes by what it makes of them (R42). -/
theorem checked_some {α : Type} {fields : Option α} {act : α → Taken} {x : α} (h : fields = some x) :
    checked fields act = act x := by rw [h]; rfl

section
variable {s : State} {tag : Tag} {code : Code} {body : List Payload} (h : s.takesAtOnce tag)
  (hc : 1 ≤ code.toNat ∧ code.toNat ≤ 32)
include h hc

/-- A request whose rule refuses it changes nothing but its own place (R42). -/
theorem State.deliver_refused {st : Status}
    (hrule : Queued.take ⟨tag, code, false, body⟩ (s.reserved tag code) = .refused st) :
    s.deliver code ⟨tag, false, body⟩ = s.answered tag st [] := by
  rw [State.deliver_take h hc, hrule]
  exact State.complete_refused st h.1.2.1

/-- A request whose rule is done leaves the rule's state with the request answered (R42). -/
theorem State.deliver_done {u : State} {reply : List Payload}
    (hrule : Queued.take ⟨tag, code, false, body⟩ (s.reserved tag code) = .done (u.reserved tag code) reply)
    (hu : u.replies = s.replies) : s.deliver code ⟨tag, false, body⟩ = u.answered tag .done reply := by
  rw [State.deliver_take h hc, hrule]
  exact State.reply_reserve .done reply (by rw [hu]; exact h.1.2.1)

/-- A fenced request is answered, and its effect waits (R44). -/
theorem State.deliver_fenced {eff : Effect} {reply : List Payload}
    (hrule : Queued.take ⟨tag, code, false, body⟩ (s.reserved tag code) = .fenced eff reply) :
    s.deliver code ⟨tag, false, body⟩ = (s.answered tag .done reply).setExecutor (.fenced tag eff false) := by
  rw [State.deliver_take h hc, hrule]
  exact congrArg (State.setExecutor · (.fenced tag eff false)) (State.reply_reserve .done reply h.1.2.1)

end

/-! ## SET LANES and SET NOTICE MASK -/

/-- Settles O50: both requests, taken at once. -/
theorem lanesAndMaskAreReplaced : Obligations.LanesAndMaskAreReplaced := by
  refine ⟨fun _ _ => rfl, ?_⟩
  rintro s ⟨tag, res, body⟩ (rfl : res = false) htake
  refine ⟨fun ins outs hb => ⟨fun hi ho => ?_, fun hio => ?_⟩, fun mask hb => ?_⟩
  · have keeps : (laneOn ins s.link.inb && laneOn outs s.link.outb) = true := by rw [hi, ho]; rfl
    exact congrArg Host.Outcome.next (State.deliver_done
      (u := s.setTiming { s.timing with inLanes := ins, outLanes := outs }) htake (by decide)
      ((checked_some hb).trans (if_pos keeps)) rfl)
  · have loses : ¬ (laneOn ins s.link.inb && laneOn outs s.link.outb) = true := by
      obtain h | h := hio <;> simp [h]
    exact congrArg Host.Outcome.next (State.deliver_refused htake (by decide)
      ((checked_some hb).trans (if_neg loses)))
  · exact congrArg Host.Outcome.next (State.deliver_done
      (u := s.setNotices { s.notices with
        mask := mask, queue := s.notices.queue.filter fun n => mask.getLsbD (n.val.kind - 1) })
      htake (by decide) (checked_some hb) rfl)

/-! ## Natural ends still to be posted -/

/-- A posting of a natural end does not look at the Reply Queue or the Command Queue. -/
theorem State.postEnd_queues (s : State) (r : ReplyQueue) (q : List Queued) (c : FrameCtx) (p : PlayerNo) :
    ((s.setReplies r).setCmdq q).postEnd c p = ((s.postEnd c p).setReplies r).setCmdq q := by
  simp only [State.postEnd]
  cases c.ended.row p <;> rfl

/-- The natural ends of both players are posted, player 0 first (R158, assumption 29). -/
theorem State.postEnds_of_some {s : State} {c : FrameCtx} (hs : s.frame = some c) :
    s.postEnds = (s.postEnd c 0).postEnd c 1 := by
  simp only [State.postEnds, hs]
  rfl

/-- Nor do the postings of both players (R158). -/
theorem State.postEnds_queues (s : State) (r : ReplyQueue) (q : List Queued) :
    ((s.setReplies r).setCmdq q).postEnds = (s.postEnds.setReplies r).setCmdq q := by
  cases hs : s.frame with
  | none => simp only [State.postEnds, State.setCmdq_frame, State.setReplies_frame, hs]
  | some c =>
    rw [State.postEnds_of_some hs, State.postEnds_of_some (s := (s.setReplies r).setCmdq q) hs,
      State.postEnd_queues, State.postEnd_queues]

/-- Once a player's natural end has been posted its record is empty (R156). -/
theorem State.postEnd_ended {s : State} {c d : FrameCtx} {p : PlayerNo} (hs : s.frame = some d)
    (hd : d.ended.row p = c.ended.row p) :
    (s.postEnd c p).frame = some { d with ended := d.ended.put p none } := by
  cases h : c.ended.row p with
  | none =>
    have same : d.ended.put p none = d.ended := by rw [← h, ← hd, Table.put_row]
    simp only [State.postEnd, h, same, hs]
  | some e => simp only [State.postEnd, h, State.noteEnd, hs]; rfl

/-- Once the natural ends have been posted none is to be posted (R158). -/
theorem State.postEnds_posted (s : State) : s.postEnds.endsPosted := by
  cases hs : s.frame with
  | none => simp [State.postEnds, State.endsPosted, hs]
  | some c =>
    have first := State.postEnd_ended (p := 0) hs rfl
    have second := State.postEnd_ended (p := 1) first (Table.row_put c.ended 0 1 none)
    rw [State.postEnds_of_some hs, State.endsPosted, second]
    rintro _ ⟨⟩ p
    obtain rfl | rfl : p = 0 ∨ p = 1 := by decide +revert
    all_goals simp [Table.row_put]

end Sys2Proof.Machine
end

section
/-! The fenced requests, what waits behind a fence, and the machine of reset. -/

namespace Sys2Proof.Machine

/-! ## A request that finds natural ends to post -/

/-- The postings of natural ends leave the Executor, its queue and the Reply Queue. -/
theorem State.postEnds_keeps (s : State) :
    s.postEnds.executor = s.executor ∧ s.postEnds.cmdq = s.cmdq ∧ s.postEnds.replies = s.replies := by
  obtain ⟨n, f, e⟩ := s.postEnds_frame
  rw [e]
  exact ⟨rfl, rfl, rfl⟩

/-- Once the natural ends have been posted, a request that may be taken is taken at once (R41, R158). -/
theorem State.takesAtOnce_postEnds {s : State} {tag : Tag} (h : s.mayTake tag) : s.postEnds.takesAtOnce tag := by
  obtain ⟨he, hq, hr⟩ := s.postEnds_keeps
  refine ⟨?_, s.postEnds_posted⟩
  rw [State.mayTake, he, hq, hr]
  exact h

/-- A request that may be taken comes out as from the state in which the natural ends have been posted (R158). -/
theorem State.deliver_postEnds {s : State} {code : Code} {r : Req} (h : s.mayTake r.tag)
    (hc : 1 ≤ code.toNat ∧ code.toNat ≤ 32) : s.deliver code r = s.postEnds.deliver code r := by
  obtain ⟨-, hq, hr⟩ := s.postEnds_keeps
  rw [State.deliver_of_takesAtOnce (State.takesAtOnce_postEnds h) hc]
  obtain ⟨h0, hl, hf, he, hcmd⟩ := h
  have passes : s.lateCheck r.tag code = none := by
    have h0' : ¬ r.tag = 0#6 := h0
    simp [State.lateCheck, h0', hl, hcmd, hc, Config.commandQueueSize]
  have found : ((((s.reserved r.tag code).setCmdq [⟨r.tag, code, r.hdrReserved, r.body⟩]).postEnds).setCmdq []) =
      s.postEnds.reserved r.tag code := by
    rw [State.reserved, State.postEnds_queues, State.reserved, hr]
    simp only [State.setCmdq, State.setReplies, hq, hcmd]
  simp only [State.reserved] at found
  simp only [State.deliver, State.request, State.settle, passes, if_neg hf, State.runExecutor, State.setCmdq_cmdq, hcmd,
    List.nil_append, List.length_cons, List.length_nil, State.drain, State.setCmdq_executor,
    State.setReplies_executor, he, found, State.reserved]

/-! ## What a moved link must not find in use -/

/-- No watch outside DISARMED and no capture outside IDLE has the subject (R36). -/
def State.unusedBy (s : State) (sub : Subject) : Prop :=
  (∀ w : WatchNo, ∀ p ∈ (s.watches.row w).params, (s.watches.row w).state ≠ .disarmed → p.subject ≠ sub) ∧
  (s.capture.state ≠ .idle → s.capture.subject ≠ some sub)

/-- No row of a table meets a check. -/
theorem any_rows_eq_false {k : Nat} {α : Type} {t : Table k α} {f : α → Bool} :
    t.toList.any f = false ↔ ∀ i : BitVec k, f (t.row i) = false := by
  simp [Table.toList_eq]

/-- The check of MOVE LINK over the watches and the capture (R36). -/
theorem State.unusedBy_iff {s : State} {sub : Subject} :
    s.unusedBy sub ↔ s.watched sub = false ∧ s.captured sub = false := by
  have watch : ∀ r : Watch, (r.state != .disarmed && r.params.any fun p => p.subject == sub) = false ↔
      ∀ p ∈ r.params, r.state ≠ .disarmed → p.subject ≠ sub := by
    intro r
    cases hp : r.params with
    | none => simp
    | some p => by_cases hd : r.state = .disarmed <;> simp [hd]
  have capture : (s.capture.state != .idle && s.capture.subject == some sub) = false ↔
      (s.capture.state ≠ .idle → s.capture.subject ≠ some sub) := by
    by_cases hk : s.capture.state = .idle <;> simp [hk]
  simp only [State.unusedBy, State.watched, State.captured, any_rows_eq_false, watch, capture]

/-- A position does not name a source, old or pending (R36). -/
def Position.avoids (src : Source) : Position → Prop
  | .empty => True
  | .steady c _ | .ramping c _ => c.source ≠ src
  | .draining c _ pend => c.source ≠ src ∧ ∀ p ∈ pend, p.source ≠ src

/-- The check of MOVE LINK over one position (R36). -/
theorem Position.avoids_iff {src : Source} {p : Position} : p.avoids src ↔ p.names src = false := by
  cases p with
  | empty => simp [Position.avoids, Position.names]
  | steady c _ | ramping c _ => simp [Position.avoids, Position.names]
  | draining c _ pend => cases pend <;> simp [Position.avoids, Position.names]

/-- An inbound slot that MOVE LINK may take: the present one, or one that nothing names (R36, check 4). -/
theorem State.inboundFree_iff {s : State} {i : Slot} : s.inboundFree i = true ↔
    i = s.link.inb ∨ ((∀ j : Slot, ∀ c ∈ (s.staged.row j).list, c.source ≠ i.setWidth 7) ∧
      (∀ (j : Slot) (k : BitVec 2), ((s.active.row j).pos.row k).avoids (i.setWidth 7)) ∧ s.unusedBy (.input i)) := by
  simp only [State.inboundFree, Bool.or_eq_true, Bool.and_eq_true, Bool.not_eq_true', beq_iff_eq, any_rows_eq_false,
    Position.avoids_iff, State.unusedBy_iff, and_assoc]
  simp only [List.any_eq_false, beq_iff_eq, ne_eq]

/-- An outbound slot that MOVE LINK may take (R36, check 4). -/
theorem State.outboundFree_iff {s : State} {i : Slot} : s.outboundFree i = true ↔
    i = s.link.outb ∨ ((s.staged.row i).drive = .released ∧ (s.active.row i).drive = .released ∧
      s.unusedBy (.output i)) := by
  simp only [State.outboundFree, Bool.or_eq_true, Bool.and_eq_true, Bool.not_eq_true', beq_iff_eq,
    State.unusedBy_iff, and_assoc]

/-! ## The requests that are fenced -/

/-- A check of two things fails where not both hold. -/
theorem check_iff {a b : Bool} : (!(a && b)) = true ↔ ¬ (a = true ∧ b = true) := by
  cases a <;> cases b <;> decide

section
variable {s : State} {tag : Tag} {body : List Payload} (h : s.takesAtOnce tag)
include h

/-- RESET FULL, taken at once (R176, R178). -/
theorem exec_resetFull : exec (.resetFull tag false) s =
    .next ((s.answered tag .done [2]).setExecutor (.fenced tag .resetFull false)) :=
  congrArg Host.Outcome.next (State.deliver_fenced h (by decide) rfl)

/-- SET FRAME FORMAT to a format with both link slots (R16). -/
theorem exec_setFrameFormat_done {f : Format} (hb : readFormat body = some f) (hi : f.present s.link.inb = true)
    (ho : f.present s.link.outb = true) : exec (.setFrameFormat ⟨tag, false, body⟩) s =
      .next ((s.answered tag .done body).setExecutor (.fenced tag (.setFormat f) false)) := by
  have keeps : ¬ (!(f.present s.link.inb && f.present s.link.outb)) = true := by simp [hi, ho]
  exact congrArg Host.Outcome.next (State.deliver_fenced h (by decide) ((checked_some hb).trans (if_neg keeps)))

/-- SET FRAME FORMAT to a format without one of them (R16). -/
theorem exec_setFrameFormat_refused {f : Format} (hb : readFormat body = some f)
    (hio : f.present s.link.inb = false ∨ f.present s.link.outb = false) :
    exec (.setFrameFormat ⟨tag, false, body⟩) s = .next (s.answered tag .linkSlotAbsent []) := by
  have loses : (!(f.present s.link.inb && f.present s.link.outb)) = true := by
    obtain h | h := hio <;> simp [h]
  exact congrArg Host.Outcome.next (State.deliver_refused h (by decide) ((checked_some hb).trans (if_pos loses)))

section
variable {inb outb : Slot} (hb : readMoveLink body = some (inb, outb))
include hb

/-- MOVE LINK to a slot the format does not have (R36, check 2). -/
theorem exec_moveLink_absent
    (hp : ¬ (s.timing.format.present inb = true ∧ s.timing.format.present outb = true)) :
    exec (.moveLink ⟨tag, false, body⟩) s = .next (s.answered tag .linkSlotAbsent []) := by
  have hp' : (!(s.timing.format.present inb && s.timing.format.present outb)) = true := check_iff.mpr hp
  exact congrArg Host.Outcome.next (State.deliver_refused h (by decide) ((checked_some hb).trans (if_pos hp')))

variable (hp : s.timing.format.present inb = true ∧ s.timing.format.present outb = true)
include hp

/-- MOVE LINK to a slot on a disabled lane (R36, check 3). -/
theorem exec_moveLink_disabled
    (hl : ¬ (laneOn s.timing.inLanes inb = true ∧ laneOn s.timing.outLanes outb = true)) :
    exec (.moveLink ⟨tag, false, body⟩) s = .next (s.answered tag .laneDisabled []) := by
  have hp' : ¬ (!(s.timing.format.present inb && s.timing.format.present outb)) = true := fun hn => check_iff.mp hn hp
  have hl' : (!(laneOn s.timing.inLanes inb && laneOn s.timing.outLanes outb)) = true := check_iff.mpr hl
  exact congrArg Host.Outcome.next (State.deliver_refused h (by decide)
    ((checked_some hb).trans ((if_neg hp').trans (if_pos hl'))))

variable (hl : laneOn s.timing.inLanes inb = true ∧ laneOn s.timing.outLanes outb = true)
include hl

/-- MOVE LINK to a slot that something uses (R36, check 4). -/
theorem exec_moveLink_inUse (hf : ¬ (s.inboundFree inb = true ∧ s.outboundFree outb = true)) :
    exec (.moveLink ⟨tag, false, body⟩) s = .next (s.answered tag .slotInUse []) := by
  have hp' : ¬ (!(s.timing.format.present inb && s.timing.format.present outb)) = true := fun hn => check_iff.mp hn hp
  have hl' : ¬ (!(laneOn s.timing.inLanes inb && laneOn s.timing.outLanes outb)) = true := fun hn => check_iff.mp hn hl
  have hf' : (!(s.inboundFree inb && s.outboundFree outb)) = true := check_iff.mpr hf
  exact congrArg Host.Outcome.next (State.deliver_refused h (by decide)
    ((checked_some hb).trans ((if_neg hp').trans ((if_neg hl').trans (if_pos hf')))))

/-- MOVE LINK that passes its checks (R36, R44). -/
theorem exec_moveLink_done (hf : s.inboundFree inb = true ∧ s.outboundFree outb = true) :
    exec (.moveLink ⟨tag, false, body⟩) s =
      .next ((s.answered tag .done body).setExecutor (.fenced tag (.moveLink inb outb) false)) := by
  have hp' : ¬ (!(s.timing.format.present inb && s.timing.format.present outb)) = true := fun hn => check_iff.mp hn hp
  have hl' : ¬ (!(laneOn s.timing.inLanes inb && laneOn s.timing.outLanes outb)) = true := fun hn => check_iff.mp hn hl
  have hf' : ¬ (!(s.inboundFree inb && s.outboundFree outb)) = true := fun hn => check_iff.mp hn hf
  exact congrArg Host.Outcome.next (State.deliver_fenced h (by decide)
    ((checked_some hb).trans ((if_neg hp').trans ((if_neg hl').trans (if_neg hf')))))

end
end

/-! ## The taking of what waits -/

/-- The head of the queue is taken where the Executor is IDLE (R41). -/
theorem State.runPhase_drain {s : State} {c : FrameCtx} {q : Queued} {rest : List Queued} (hs : s.frame = some c)
    (he : s.executor = .idle) (hq : s.cmdq = q :: rest) :
    s.runPhase .drain = (s.postEnds.setCmdq rest).complete q.tag (q.outcome (s.postEnds.setCmdq rest)) := by
  simp only [State.runPhase, hs, State.drain, he, hq]

/-- Nothing is taken behind a fence, or from an empty queue (R41, R44). -/
theorem State.runPhase_drain_none {s : State} {c : FrameCtx} (hs : s.frame = some c)
    (h : s.executor ≠ .idle ∨ s.cmdq = []) : s.runPhase .drain = s := by
  obtain he | hq := h
  · simp only [State.runPhase, hs, State.drain]
    split
    · rename_i hx _
      exact absurd hx he
    · rfl
  · simp only [State.runPhase, hs]
    exact State.drain_empty 1 hq

/-- Settles O51: the completions, the taking of what waits, and the three fenced requests with their checks. -/
theorem fencedRequestsWait : Obligations.FencedRequestsWait := by
  refine ⟨?_, fun s c hs => ⟨fun q rest => State.runPhase_drain hs, State.runPhase_drain_none hs⟩,
    fun s code r h h1 h2 => State.deliver_of_takesAtOnce h ⟨h1, h2⟩, fun s h => State.postEnds_of_posted h,
    fun s code r h h1 h2 => ⟨State.takesAtOnce_postEnds h, State.deliver_postEnds h ⟨h1, h2⟩⟩,
    fun s tag h => ⟨exec_resetFull h, fun body f hb => ⟨exec_setFrameFormat_done h hb,
      exec_setFrameFormat_refused h hb⟩, ?_⟩⟩
  · intro s tag st body t eff ended
    exact ⟨rfl, rfl, rfl, rfl⟩
  · intro body inb outb hb present enabled unused free
    have hfree : free ↔ s.inboundFree inb = true ∧ s.outboundFree outb = true :=
      (and_congr State.inboundFree_iff State.outboundFree_iff).symm
    exact ⟨exec_moveLink_absent h hb, exec_moveLink_disabled h hb,
      fun hp hl hf => exec_moveLink_inUse h hb hp hl fun hn => hf (hfree.mpr hn),
      fun hp hl hf => exec_moveLink_done h hb hp hl (hfree.mp hf)⟩

/-! ## Reset -/

/-- Settles O2: the machine of reset, block by block. -/
theorem resetLeavesEveryBlock : Obligations.ResetLeavesEveryBlock := by
  refine ⟨rfl, rfl, rfl, rfl, rfl, rfl, rfl, rfl, pinsReleased_row, fun i => ?_, fun i => ?_, rfl, fun g => ?_,
    fun i => ?_, rfl, fun id => ?_, rfl, fun p => ?_, fun w => ?_⟩
  · exact Table.row_tab (fun _ => Staged.reset) i
  · simp [State.reset, Active.reset]
  · exact Table.row_tab (fun _ => Group.reset) g
  · simp [State.reset, Mixer.reset]
  · exact Table.row_tab (fun _ => none) id
  · exact Table.row_tab (fun _ => Player.reset) p
  · exact Table.row_tab (fun _ => Watch.reset) w

/-- Settles O3: a pin reset, and the unknown words of the memory after it. -/
theorem pinResetCompletes : Obligations.PinResetCompletes := by
  intro s
  exact ⟨s.pinReset, rfl, rfl, fun a => rfl⟩

end Sys2Proof.Machine
end

section
/-! What the parts of an event and the rules of the requests may write, said closely enough for the laws of the link: no
part brings a routing, a watch or a capture that was not there, every posting is a legal one, and a rule writes what its
checks let through. -/

namespace Sys2Proof.Machine

/-! ## What a position names -/

/-- A contributor that follows its effective target names its own source (R62). -/
theorem follow_names (muted jump : Bool) (c : Contrib) (cur : Gain) (src : Source) :
    (follow muted jump c cur).names src = (c.source == src) := by
  simp only [follow]
  repeat' split
  all_goals rfl

/-- A completed drain leaves its pending part's source alone (R84). -/
theorem drainEnd_names (muted jump : Bool) (pend : Option Contrib) (src : Source) :
    (drainEnd muted jump pend).names src = pend.any fun p => p.source == src := by
  cases pend with
  | none => rfl
  | some c => exact follow_names muted jump c 0 src

section
variable {src : Source} {p : Position}

/-- A draining position names its old source and its pending one (R36). -/
theorem Position.draining_names {c : Contrib} {cur : Gain} {pend : Option Contrib} :
    (Position.draining c cur pend).names src = false ↔
      (c.source == src) = false ∧ (pend.any fun p => p.source == src) = false := Bool.or_eq_false_iff

/-- A movement completed at once brings no source (R92). -/
theorem Position.complete_names (muted : Bool) (h : p.names src = false) : (p.complete muted).names src = false := by
  cases p with
  | empty | steady | ramping => exact h
  | draining c cur pend => exact (drainEnd_names muted true pend src).trans (Position.draining_names.mp h).2

/-- An expiry brings no source (R83). -/
theorem Position.expire_names (step : Nat) (muted jump : Bool) (h : p.names src = false) :
    (p.expire step muted jump).names src = false := by
  cases p with
  | empty | steady => exact h
  | ramping c cur =>
    simp only [Position.expire]
    split <;> exact h
  | draining c cur pend =>
    simp only [Position.expire]
    split
    · exact (drainEnd_names muted jump pend src).trans (Position.draining_names.mp h).2
    · exact h

/-- GROUP MUTE brings no source (R88). -/
theorem Position.remute_names (muted jump : Bool) (h : p.names src = false) : (p.remute muted jump).names src = false := by
  cases p with
  | empty | draining => exact h
  | steady c cur | ramping c cur => exact (follow_names muted jump c cur src).trans h

/-- SET GAIN changes targets alone (R77). -/
theorem Position.setGain_names {muted jump : Bool} {code : Gain} {q : Position}
    (hq : p.setGain muted jump code = some q) (h : p.names src = false) : q.names src = false := by
  cases p with
  | empty => cases hq
  | steady c cur | ramping c cur => cases hq; exact (follow_names muted jump _ cur src).trans h
  | draining c cur pend =>
    cases pend with
    | none => cases hq
    | some c' => cases hq; exact h

/-- The comparison with a staged record brings that record's source alone (R72). -/
theorem Position.compare_names (muted jump : Bool) {rec : Option Contrib}
    (hrec : (rec.any fun c => c.source == src) = false) (h : p.names src = false) :
    (p.compare muted jump rec).names src = false := by
  have follows : ∀ c cur, rec = some c → (follow muted jump c cur).names src = false := by
    rintro c cur rfl
    exact (follow_names muted jump c cur src).trans hrec
  have drains : ∀ (c : Contrib) cur, (c.source == src) = false → (Position.draining c cur rec).names src = false :=
    fun c cur hc => Position.draining_names.mpr ⟨hc, hrec⟩
  cases p with
  | empty =>
    cases rec with
    | none => rfl
    | some c => exact follows c 0 rfl
  | steady old cur | ramping old cur =>
    cases rec with
    | none => exact drains old cur h
    | some c =>
      simp only [Position.compare]
      split
      · exact follows c cur rfl
      · exact drains old cur h
  | draining old cur pend =>
    have hold := (Position.draining_names.mp h).1
    cases rec with
    | none => exact drains old cur hold
    | some c =>
      simp only [Position.compare]
      split
      · exact follows c cur rfl
      · exact drains old cur hold

/-- What the application of a commit makes of a position names what stood there or the staged record (R72). -/
theorem Position.adopt_names (muted jump : Bool) {rec : Option Contrib}
    (hrec : (rec.any fun c => c.source == src) = false) (h : p.names src = false) :
    (p.adopt muted jump rec).names src = false := by
  have hcomp := Position.compare_names muted jump hrec h
  simp only [Position.adopt]
  split
  · exact Position.complete_names muted hcomp
  · exact hcomp

/-- The configured view of a position names what the position names (R67). -/
theorem Position.configured_names (h : p.names src = false) : (p.configured.any fun c => c.source == src) = false := by
  cases p with
  | empty => rfl
  | steady c cur | ramping c cur => exact h
  | draining c cur pend => exact (Position.draining_names.mp h).2

end

/-! ## Entries that draw on what stood there -/

/-- A staged entry names a source (R59). -/
def Staged.names (e : Staged) (src : Source) : Bool := e.list.any fun c => c.source == src

/-- An active entry that draws on an older one and on a staged one: its drive is that of one of them, and it names no source
that neither names. -/
def Active.DrawsOn (new old : Active) (e : Staged) : Prop :=
  (new.drive = old.drive ∨ new.drive = e.drive) ∧
  ∀ src, e.names src = false → (∀ k, (old.pos.row k).names src = false) → ∀ k, (new.pos.row k).names src = false

/-- An entry draws on itself. -/
theorem Active.drawsOn_self (old : Active) (e : Staged) : old.DrawsOn old e := ⟨.inl rfl, fun _ _ h => h⟩

/-- An entry whose positions are replaced by ones that name no more. -/
theorem Active.drawsOn_mapPos {f : Position → Position}
    (hf : ∀ src p, Position.names src p = false → (f p).names src = false) (old : Active) (e : Staged) :
    (old.mapPos f).DrawsOn old e :=
  ⟨.inl rfl, fun src _ h k => by rw [Active.mapPos, Table.row_tab]; exact hf src _ (h k)⟩

/-- The entries of a group whose positions are replaced by ones that name no more. -/
theorem mapGroup_drawsOn {f : Position → Position}
    (hf : ∀ src p, Position.names src p = false → (f p).names src = false) (g : GroupNo) (t : Table 6 Active)
    (i : Slot) (e : Staged) : ((mapGroup g f t).row i).DrawsOn (t.row i) e := by
  rw [mapGroup, Table.row_tab]
  split
  · exact Active.drawsOn_mapPos hf _ _
  · exact Active.drawsOn_self _ _

/-- The application of a dirty entry draws on it and on what stood there (R71, R72). -/
theorem Staged.apply_drawsOn (groups : Table 3 Group) (e : Staged) (a : Active) : (e.apply groups a).DrawsOn a e := by
  simp only [Staged.apply]
  split
  · refine ⟨.inr rfl, fun src he h k => ?_⟩
    rw [Table.row_tab]
    refine Position.adopt_names _ _ ?_ (h k)
    cases hrec : e.list[k.toNat]? with
    | none => rfl
    | some c => exact Bool.eq_false_iff.mpr (List.any_eq_false.mp he c (List.mem_of_getElem? hrec))
  · exact Active.drawsOn_self a e

/-- One position of one entry replaced by one that names no more. -/
theorem drawsOn_put {t : Table 6 Active} {i : Slot} {k : BitVec 2} {p : Position}
    (hp : ∀ src, ((t.row i).pos.row k).names src = false → p.names src = false) (j : Slot) (e : Staged) :
    ((t.put i { t.row i with pos := (t.row i).pos.put k p }).row j).DrawsOn (t.row j) e := by
  rw [Table.row_put]
  split
  · rename_i hj
    subst hj
    refine ⟨.inl rfl, fun src _ h k' => ?_⟩
    simp only [Table.row_put]
    split
    · exact hp src (h k)
    · exact h k'
  · exact Active.drawsOn_self _ _

/-- The configured view of an entry names what the entry names (R67). -/
theorem Active.configured_names {e : Active} {src : Source} (h : ∀ k, (e.pos.row k).names src = false) :
    e.configured.names src = false := by
  simp only [Staged.names, Active.configured, List.any_eq_false, List.mem_filterMap, Table.mem_toList]
  rintro c ⟨p, ⟨k, rfl⟩, hc⟩
  have := Position.configured_names (h k)
  simpa [hc] using this

end Sys2Proof.Machine
end

section
/-! What the parts of an event may write: a property that the writes of `PartMoves` keep is kept by each block's frame
step. -/

namespace Sys2Proof.Machine

/-- What a property must be kept by for every block's part of an event to keep it. -/
structure PartMoves (P : State → Prop) : Prop where
  active : ∀ (s : State) v, (∀ i, (v.row i).DrawsOn (s.active.row i) (s.staged.row i)) → P s → P (s.setActive v)
  clean : ∀ s : State, P s → P (s.setStaged (Table.tab fun i => { s.staged.row i with dirty := false }))
  commit : ∀ s v, P s → P (s.setCommit v)
  groups : ∀ s v, P s → P (s.setGroups v)
  replies : ∀ s v, P s → P (s.setReplies v)
  mixer : ∀ s v, P s → P (s.setMixer v)
  memory : ∀ s v, P s → P (s.setMemory v)
  regions : ∀ s v, P s → P (s.setRegions v)
  players : ∀ s v, P s → P (s.setPlayers v)
  pins : ∀ s v, P s → P (s.setPins v)
  frame : ∀ s v, P s → P (s.setFrame v)
  post : ∀ (s : State) v, v.clipLegal = true → P s → P (s.post v)
  watch : ∀ (s : State) w r, r.params = (s.watches.row w).params →
    ((s.watches.row w).state = .disarmed → r.state = .disarmed) → P s → P (s.putWatch w r)
  capture : ∀ (s : State) k, k.subject = s.capture.subject → (s.capture.state = .idle → k.state = .idle) → P s →
    P (s.setCapture k)

namespace PartMoves

variable {P : State → Prop} (k : PartMoves P) {s : State}
include k

/-- Bringing one group's count up to date (R86, R87, R96). -/
theorem sync (old : Table 6 Active) (g : GroupNo) (h : P s) : P (s.syncGroup old g) := by
  simp only [State.syncGroup]
  repeat' split
  · exact h
  · exact k.frame _ _ (k.groups _ _ h)
  · exact k.post _ _ rfl (k.groups _ _ h)
  · exact k.groups _ _ h
  · exact k.groups _ _ h

/-- Bringing the counts of all eight groups up to date (R86). -/
theorem syncs (old : Table 6 Active) (h : P s) : P (s.syncGroups old) := by
  simp only [State.syncGroups]
  induction Table.numbers 3 generalizing s with
  | nil => exact h
  | cons g l ih => exact ih (k.sync old g h)

/-- A group's frame step (R83, R87). -/
theorem groupStep (g : GroupNo) (h : P s) : P (s.groupStep g) := by
  have expiry : P (s.expiry g) := by
    have moved : P (s.setActive (mapGroup g
        (Position.expire (s.groups.row g).step (s.groups.row g).muted (s.groups.row g).jump) s.active)) :=
      k.active _ _ (fun i => mapGroup_drawsOn (fun _ _ => Position.expire_names _ _ _) g _ i _) h
    simp only [State.expiry]
    split
    · exact k.post _ _ rfl (k.groups _ _ moved)
    · exact k.groups _ _ moved
  simp only [State.groupStep]
  repeat' split
  · exact h
  · exact expiry
  · exact k.groups _ _ h

/-- The end of a pending commit without an application (R73, R75). -/
theorem endCommit (c : Commit) (st : Status) (h : P s) : P (s.endCommit c st) := k.replies _ _ (k.commit _ _ h)

/-- The commit test (R70 to R73). -/
theorem commitStep (arrival : Bool) (h : P s) : P (s.commitStep arrival) := by
  have applied : ∀ c, P (s.applyCommit c) := by
    intro c
    have drawn : P (s.setActive (Table.tab fun i => (s.staged.row i).apply s.groups (s.active.row i))) :=
      k.active _ _ (fun i => by rw [Table.row_tab]; exact Staged.apply_drawsOn _ _ _) h
    have cleaned := k.clean _ drawn
    simp only [State.setActive_staged] at cleaned
    simp only [State.applyCommit]
    exact k.replies _ _ (k.syncs _ (k.commit _ _ cleaned))
  simp only [State.commitStep]
  repeat' split
  · exact h
  · exact applied _
  · exact k.endCommit _ _ h
  · exact k.commit _ _ h

/-- A player's frame step (R153 to R156). -/
theorem playerStep (p : PlayerNo) (h : P s) : P (s.playerStep p) := by
  have give : ∀ x, P (s.give p x) := fun x => k.frame _ _ h
  simp only [State.playerStep, State.naturalEnd, State.returnRegion]
  repeat' split
  · exact h
  · exact k.frame _ _ (k.players _ _ (give _))
  · exact k.frame _ _ (k.regions _ _ (k.players _ _ (give _)))
  · exact k.players _ _ (give _)
  · exact k.players _ _ (give _)

/-- The posting of a natural end (R156). -/
theorem postEnd (c : FrameCtx) (p : PlayerNo) (h : P s) : P (s.postEnd c p) := by
  simp only [State.postEnd]
  split
  · exact h
  · exact k.post _ _ rfl (k.frame _ _ h)

/-- The posting of the natural ends before a request is taken (R158). -/
theorem postEnds (h : P s) : P s.postEnds := by
  cases hs : s.frame with
  | none => simpa only [State.postEnds, hs] using h
  | some c => rw [State.postEnds_of_some hs]; exact k.postEnd c 1 (k.postEnd c 0 h)

/-- The beginning of an output frame (R110, R111). -/
theorem beginOutput (h : P s) : P s.beginOutput := by
  simp only [State.beginOutput]
  exact k.frame _ _ (k.pins _ _ (k.mixer _ _ h))

/-- The mixer's computation (R106 to R110): CLIP is posted for one slot at a time. -/
theorem mix (c : FrameCtx) (h : P s) : P (s.mix c) := by
  have post : ∀ (sums : Table 6 (Option Int)) (old : Table 6 (BitVec 16)) (l : List Slot) (u : State), P u →
      P (l.foldl (State.postClip sums old) u) := by
    intro sums old l
    induction l with
    | nil => exact fun _ hu => hu
    | cons i l ih =>
      intro u hu
      refine ih _ ?_
      rw [State.postClip_eq]
      split
      · exact k.post _ _ (by simp [NoticeVal.clipLegal, Config.clipListSize]) hu
      · exact hu
  simp only [State.mix]
  split
  · exact post _ _ _ _ (k.mixer _ _ h)
  · exact h

/-- A watch's evaluation: it keeps its parameters, and a DISARMED one its state (R163 to R167). -/
theorem watchStep (c : FrameCtx) (w : WatchNo) (h : P s) : P (s.watchStep c w) := by
  have evaluated : ∀ p m, P (s.putWatch w ((s.watches.row w).evaluate p m)) := by
    intro p m
    refine k.watch _ _ _ ?_ (fun hd => ?_) h
    · simp only [Watch.evaluate]
      repeat' split
      all_goals rfl
    · simp only [Watch.evaluate, hd]
  simp only [State.watchStep]
  repeat' split
  · exact h
  · exact k.frame _ _ (k.post _ _ rfl (evaluated _ _))
  · exact k.post _ _ rfl (evaluated _ _)
  · exact evaluated _ _

/-- The stop of a capture (R146). -/
theorem stop (reason : EndReason) (h : P s) : P (s.stopCapture reason) := by
  simp only [State.stopCapture]
  split
  · exact k.post _ _ rfl (k.regions _ _ (k.capture _ _ rfl (fun _ => rfl) h))
  · exact k.post _ _ rfl (k.capture _ _ rfl (fun _ => rfl) h)

/-- The capture's frame step: it keeps its subject, and an IDLE one its state (R138 to R148). -/
theorem captureStep (c : FrameCtx) (h : P s) : P (s.captureStep c) := by
  have store : ∀ (u : State) r sub, P u → P (u.store c r sub) := fun u r sub hu =>
    k.capture _ _ rfl (fun hi => hi) (k.memory _ _ hu)
  have filling : ∀ (u : State) r sub, P u → P (u.storeFilling c r sub) := by
    intro u r sub hu
    simp only [State.storeFilling]
    split
    · exact k.stop _ (store _ _ _ hu)
    · exact store _ _ _ hu
  have post : ∀ (u : State) r sub, P u → P (u.storePost c r sub) := by
    intro u r sub hu
    have counted : ∀ n, P ((u.store c r sub).setCapture { (u.store c r sub).capture with postRemaining := n }) :=
      fun n => k.capture _ _ rfl (fun hi => hi) (store _ _ _ hu)
    simp only [State.storePost]
    split
    · exact k.stop _ (counted _)
    · exact counted _
  have running : ∀ v : Capture, v.subject = s.capture.subject → s.capture.state ≠ .idle → P (s.setCapture v) :=
    fun v hv hn => k.capture _ _ hv (fun hi => absurd hi hn) h
  simp only [State.captureStep]
  split
  · split
    · exact h
    · rename_i hk
      have entered := fun t => filling (s.setCapture { s.capture with state := .filling, triggerOffset := t })
      repeat' split
      · exact k.post _ _ rfl (entered _ _ _ (running _ rfl (by simp [hk])))
      · exact entered _ _ _ (running _ rfl (by simp [hk]))
      · exact h
    · rename_i hk
      have noted : ∀ t, P (s.setCapture { s.capture with triggerOffset := t }) :=
        fun t => running _ rfl (by simp [hk])
      have entered : ∀ t r sub, P ((s.setCapture { s.capture with
          triggerOffset := t, state := .post, postRemaining := s.capture.postCount }).storePost c r sub) :=
        fun t r sub => post _ _ _ (running _ rfl (by simp [hk]))
      repeat' split
      · exact k.stop _ (noted _)
      · exact k.post _ _ rfl (entered _ _ _)
      · exact entered _ _ _
      · exact filling _ _ _ h
    · exact post _ _ _ h
  · exact h

end PartMoves

end Sys2Proof.Machine
end

section
/-! What the rules of the requests may write, and what they may leave waiting behind a fence: a property that the writes of
`RuleMoves` keep is kept by every request's rule. -/

namespace Sys2Proof.Machine

/-- What a property must be kept by for every request's rule to keep it. The tables, the watches and the capture are
written under the checks against the link assignment in force (R36, R55, R65, R115, R136, R168). -/
structure RuleMoves (P : State → Prop) : Prop extends PartMoves P where
  stage : ∀ (s : State) i (e : Staged), e.names (s.link.inb.setWidth 7) = false →
    (i = s.link.outb → e.drive = .released) → P s → P (s.putStaged i e)
  unstage : ∀ s : State, P s → P (s.setStaged (Table.tab fun _ => { Staged.reset with dirty := true }))
  configure : ∀ s : State, P s → P (s.setStaged (Table.tab fun i => (s.active.row i).configured))
  routes : ∀ s : State, P s → P s.clearRoutes
  start : ∀ (s : State) k, (∀ sub ∈ k.subject, s.link.reserves sub = false) → P s → P (s.setCapture k)
  arm : ∀ (s : State) w r, (∀ p ∈ r.params, s.link.reserves p.subject = false) → P s → P (s.putWatch w r)
  mask : ∀ (s : State) m, P s →
    P (s.setNotices { s.notices with mask := m, queue := s.notices.queue.filter (maskEnables m) })
  clips : ∀ s : State, P s → P s.clearClips
  counters : ∀ s : State, P s → P s.clearCounters
  lanes : ∀ (s : State) ins outs, laneOn ins s.link.inb = true → laneOn outs s.link.outb = true → P s →
    P (s.setTiming { s.timing with inLanes := ins, outLanes := outs })

/-- What a fenced request has been checked for (R16, R36). -/
def State.Fenceable (s : State) : Effect → Prop
  | .moveLink inb outb =>
    s.linkPresent ⟨inb, outb⟩ s.timing.format ∧ s.inboundFree inb = true ∧ s.outboundFree outb = true
  | .setFormat f => f.present s.link.inb = true ∧ f.present s.link.outb = true
  | .resetFull => True

/-- The state that a taking leaves has a property, and so has the effect that it leaves waiting. -/
def Taken.Meets (P : State → Prop) (Q : Effect → Prop) : Taken → Prop
  | .done t _ | .deferred t => P t
  | .fenced eff _ => Q eff
  | .refused _ => True

/-- A rule behind the common checks (R42). -/
theorem checked_meets {P : State → Prop} {Q : Effect → Prop} {α : Type} {fields : Option α} {act : α → Taken}
    (h : ∀ x, (act x).Meets P Q) : (checked fields act).Meets P Q := by
  cases fields with
  | none => trivial
  | some x => exact h x

namespace RuleMoves

variable {P : State → Prop} (k : RuleMoves P) {s : State} (h : P s)
include k h

/-- The routing part of RESET (R177). -/
theorem routing : P s.resetRouting := by
  have clear : ∀ u, P u → P u.clearRoutes.clearMixer := fun u hu => k.mixer _ _ (k.routes u hu)
  simp only [State.resetRouting]
  split
  · exact clear _ h
  · exact clear _ (k.endCommit _ _ h)

/-- RESET (R176 to R178). -/
theorem reset (body : List Payload) : (takeReset body s).Meets P s.Fenceable := by
  refine checked_meets fun scope => ?_
  cases scope with
  | routing => exact k.routing h
  | full => trivial

omit k h in
/-- MOVE LINK leaves waiting what its checks let through (R36). -/
theorem moveLink (body : List Payload) : (takeMoveLink body s).Meets P s.Fenceable := by
  refine checked_meets fun ⟨inb, outb⟩ => ?_
  dsimp only
  split
  · trivial
  rename_i hp
  split
  · trivial
  rename_i hl
  split
  · trivial
  rename_i hf
  obtain ⟨hpi, hpo⟩ := not_not.mp fun hn => hp (check_iff.mpr hn)
  obtain ⟨hli, hlo⟩ := not_not.mp fun hn => hl (check_iff.mpr hn)
  exact ⟨⟨hpi, hpo, hli, hlo⟩, not_not.mp fun hn => hf (check_iff.mpr hn)⟩

omit k h in
/-- SET FRAME FORMAT leaves waiting what its check lets through (R16). -/
theorem setFormat (body : List Payload) : (takeSetFrameFormat body s).Meets P s.Fenceable := by
  refine checked_meets fun f => ?_
  split
  · trivial
  rename_i hp
  exact not_not.mp fun hn => hp (check_iff.mpr hn)

/-- SET LANES keeps the lanes of the management slots (R18). -/
theorem setLanes (body : List Payload) : (takeSetLanes body s).Meets P s.Fenceable := by
  refine checked_meets fun ⟨ins, outs⟩ => ?_
  dsimp only
  split
  · rename_i hl
    obtain ⟨hi, ho⟩ := (Bool.and_eq_true _ _).mp hl
    exact k.lanes s ins outs hi ho h
  · trivial

/-- STAGE ROUTE names neither management slot (R65). -/
theorem stageRoute (body : List Payload) : (takeStageRoute body s).Meets P s.Fenceable := by
  refine checked_meets fun f => ?_
  repeat' split
  · trivial
  · trivial
  · trivial
  · trivial
  · rename_i hin hout
    refine k.stage s f.slot _ (Bool.eq_false_iff.mpr hin) (fun hi => ?_) h
    cases hd : f.drive with
    | released => rfl
    | driven => exact absurd (by simp [hi, hd]) hout

/-- STAGE CLEAR (R66). -/
theorem stageClear (body : List Payload) : (takeStageClear body s).Meets P s.Fenceable := by
  refine checked_meets fun target => ?_
  dsimp only
  split
  · trivial
  · cases target with
    | some i => exact k.stage s i _ rfl (fun _ => rfl) h
    | none => exact k.unstage s h

/-- SET GAIN (R77). -/
theorem setGain (body : List Payload) : (takeSetGain body s).Meets P s.Fenceable := by
  refine checked_meets fun ⟨i, n, code⟩ => ?_
  dsimp only
  split
  · trivial
  · rename_i p hp
    exact k.syncs _ (k.active _ _ (fun j => drawsOn_put (fun _ => Position.setGain_names hp) j _) h)

/-- SET GROUP (R91, R92). -/
theorem setGroup (body : List Payload) : (takeSetGroup body s).Meets P s.Fenceable := by
  refine checked_meets fun ⟨g, step, interval⟩ => ?_
  simp only [State.rateGroup, Taken.Meets]
  repeat' split
  · exact k.groups _ _ h
  · exact k.active _ _ (fun i => mapGroup_drawsOn (fun _ _ => Position.complete_names _) g _ i _) (k.groups _ _ h)
  · exact k.frame _ _ (k.groups _ _ h)

/-- GROUP MUTE (R88). -/
theorem groupMute (body : List Payload) : (takeGroupMute body s).Meets P s.Fenceable := by
  refine checked_meets fun ⟨g, muted⟩ => ?_
  exact k.syncs _ (k.active _ _ (fun i => mapGroup_drawsOn (fun _ _ => Position.remute_names _ _) g _ i _)
    (k.groups _ _ h))

/-- START CAPTURE names no management slot (R136). -/
theorem startCapture (body : List Payload) : (takeStartCapture body s).Meets P s.Fenceable := by
  refine checked_meets fun f => ?_
  repeat' split
  · trivial
  · trivial
  · trivial
  · trivial
  · trivial
  · rename_i hl
    refine k.start _ _ ?_ (k.regions _ _ h)
    rintro _ ⟨⟩
    exact Bool.eq_false_iff.mpr hl

/-- STOP PLAYER (R157). -/
theorem stopPlayer (body : List Payload) : (takeStopPlayer body s).Meets P s.Fenceable := by
  refine checked_meets fun p => ?_
  simp only [State.endPlayer, State.returnRegion, Taken.Meets]
  repeat' split
  · exact k.players _ _ h
  · exact k.regions _ _ (k.players _ _ h)
  · exact h

/-- SET WATCH names no management slot (R168). -/
theorem setWatch (body : List Payload) : (takeSetWatch body s).Meets P s.Fenceable := by
  refine checked_meets fun ⟨w, p⟩ => ?_
  dsimp only
  split
  · trivial
  · rename_i hl
    refine k.arm _ _ _ ?_ h
    rintro _ ⟨⟩
    exact Bool.eq_false_iff.mpr hl

/-- CLEAR WATCH disarms (R169). -/
theorem clearWatch (body : List Payload) : (takeClearWatch body s).Meets P s.Fenceable := by
  refine checked_meets fun w => ?_
  dsimp only
  split
  · trivial
  · exact k.watch _ _ _ rfl (fun _ => rfl) h

/-- A request's rule, by its code (R185). -/
theorem take (q : Queued) : (q.take s).Meets P s.Fenceable := by
  simp only [Queued.take]
  split
  case h_3 => exact k.reset h _
  case h_5 => exact moveLink _
  case h_6 => exact setFormat _
  case h_7 => exact k.setLanes h _
  case h_8 => exact k.stageRoute h _
  case h_9 => exact k.stageClear h _
  case h_14 => exact k.setGain h _
  case h_15 => exact k.setGroup h _
  case h_16 => exact k.groupMute h _
  case h_24 => exact k.startCapture h _
  case h_28 => exact k.stopPlayer h _
  case h_30 => exact k.setWatch h _
  case h_31 => exact k.clearWatch h _
  case h_33 => trivial
  all_goals refine checked_meets fun x => ?_
  case h_2 =>
    simp only [Taken.Meets]
    split
    · exact k.counters _ h
    · exact h
  case h_4 => exact k.mask _ _ h
  case h_10 =>
    split
    · trivial
    · exact k.configure _ h
  case h_11 => dsimp only; split <;> exact h
  case h_12 =>
    dsimp only
    split
    · trivial
    · exact k.commit _ _ h
  case h_13 =>
    split
    · trivial
    · exact k.endCommit _ _ h
  case h_18 =>
    simp only [Taken.Meets]
    split
    · exact k.clips _ h
    · exact h
  case h_25 =>
    dsimp only
    split
    · trivial
    · exact k.stop _ h
  case h_19 =>
    dsimp only
    repeat' split
    · trivial
    · trivial
    · exact k.regions _ _ h
  case h_20 =>
    repeat' split
    · trivial
    · exact k.regions _ _ h
    · trivial
  case h_21 =>
    dsimp only
    repeat' split
    · trivial
    · trivial
    · trivial
    · exact k.regions _ _ (k.memory _ _ h)
  case h_22 =>
    dsimp only
    repeat' split
    · trivial
    · trivial
    · trivial
    · exact h
  case h_27 =>
    dsimp only
    repeat' split
    · trivial
    · trivial
    · trivial
    · trivial
    · exact k.players _ _ (k.regions _ _ h)
  all_goals exact h

/-- A taking (R42). -/
theorem outcome (q : Queued) : (q.outcome s).Meets P s.Fenceable := by
  simp only [Queued.outcome]
  split
  · trivial
  · exact k.take h q

end RuleMoves

end Sys2Proof.Machine
end

section
/-! The law of the parser and the Notice Queue (R25, R27, R33, R51, R55, R109). -/

namespace Sys2Proof.Machine

/-! ## Postings -/

/-- A count adds 1 and stays at the largest value (00_scope, Counters). -/
theorem satInc_toNat {n : Nat} (x : BitVec n) : (satInc x).toNat = min (x.toNat + 1) (2 ^ n - 1) := by
  have hlt := x.isLt
  have hmax : (BitVec.allOnes n).toNat = 2 ^ n - 1 := BitVec.toNat_allOnes
  simp only [satInc]
  split
  · rename_i h
    subst h
    omega
  · rename_i h
    have hne : x.toNat ≠ 2 ^ n - 1 := fun e => h (BitVec.eq_of_toNat_eq (e.trans hmax.symm))
    have hone : (1#n).toNat ≤ 1 := by rw [BitVec.toNat_ofNat]; exact Nat.mod_le _ _
    have hadd : (x + 1#n).toNat = x.toNat + 1 := by
      rw [BitVec.toNat_add, BitVec.toNat_ofNat, Nat.add_mod_mod, Nat.mod_eq_of_lt (by omega)]
    show (x + 1#n).toNat = _
    omega

/-- A count never falls. -/
theorem le_satInc {n : Nat} (x : BitVec n) : x.toNat ≤ (satInc x).toNat := by
  have := x.isLt
  rw [satInc_toNat]
  omega

/-- A notice keeps its kind through a folding (R52). -/
theorem NoticeVal.fold_kind (old new : NoticeVal) : (old.fold new).kind = new.kind := by
  simp only [NoticeVal.fold]
  split <;> rfl

/-- A notice keeps its subject through a folding (R52). -/
theorem NoticeVal.fold_subject (old new : NoticeVal) : (old.fold new).subject = new.subject := by
  simp only [NoticeVal.fold]
  split <;> rfl

/-- Two notices of one kind and subject (R51). -/
theorem NoticeVal.sameKey_iff {a b : NoticeVal} : a.sameKey b = true ↔ a.kind = b.kind ∧ a.subject = b.subject := by
  simp [NoticeVal.sameKey]

/-- A CLIP notice within its bounds (R109). -/
theorem NoticeVal.clipLegal_clip {f : FrameNo} {slots : List Slot} {overflow : Nat} :
    (NoticeVal.clip f slots overflow).clipLegal = true ↔
      slots.length ≤ Config.clipListSize ∧ slots.Nodup ∧ overflow ≤ 127 := by
  simp [NoticeVal.clipLegal, and_assoc]

/-- A slot that joins a CLIP notice keeps it within its bounds (R109). -/
theorem clipJoin_legal {f : FrameNo} {slots : List Slot} {overflow : Nat} (i : Slot)
    (h : (NoticeVal.clip f slots overflow).clipLegal = true) :
    (NoticeVal.clip f (clipJoin slots overflow i).1 (clipJoin slots overflow i).2).clipLegal = true := by
  obtain ⟨hlen, hnodup, hover⟩ := NoticeVal.clipLegal_clip.mp h
  simp only [clipJoin]
  split
  · exact h
  · rename_i hi
    split
    · refine NoticeVal.clipLegal_clip.mpr ⟨by simpa using by omega, ?_, hover⟩
      refine List.nodup_append.mpr ⟨hnodup, List.nodup_singleton i, ?_⟩
      simpa using fun a ha (e : a = i) => hi (e ▸ ha)
    · exact NoticeVal.clipLegal_clip.mpr ⟨hlen, hnodup, min_le_left _ _⟩

/-- A folding keeps a CLIP notice within its bounds (R52, R109). -/
theorem NoticeVal.fold_clipLegal {old new : NoticeVal} (ho : old.clipLegal = true) (hn : new.clipLegal = true) :
    (old.fold new).clipLegal = true := by
  simp only [NoticeVal.fold]
  split
  · rename_i f slots overflow g posted _
    have joined : ∀ (l : List Slot) (r : List Slot × Nat), (NoticeVal.clip g r.1 r.2).clipLegal = true →
        (NoticeVal.clip g (l.foldl (fun acc i => clipJoin acc.1 acc.2 i) r).1
          (l.foldl (fun acc i => clipJoin acc.1 acc.2 i) r).2).clipLegal = true := by
      intro l
      induction l with
      | nil => exact fun _ h => h
      | cons i l ih => exact fun r h => ih _ (clipJoin_legal i h)
    exact joined posted (slots, overflow) ho
  · exact hn

/-- A legal posting leaves the Notice Queue legal (R51, R52, R55, R109). -/
theorem NoticeSide.legal_post {n : NoticeSide} {v : NoticeVal} (h : n.legal) (hv : v.clipLegal = true) :
    (n.post v).legal := by
  obtain ⟨hlen, hnodup, hmem⟩ := h
  simp only [NoticeSide.post]
  split
  · exact ⟨hlen, hnodup, hmem⟩
  rename_i hmask
  split
  · have keys : ∀ q : Notice, ((if q.val.sameKey v then (⟨q.val.fold v, satInc q.count⟩ : Notice) else q).val.kind,
        (if q.val.sameKey v then (⟨q.val.fold v, satInc q.count⟩ : Notice) else q).val.subject) =
        (q.val.kind, q.val.subject) := by
      intro q
      split
      · rename_i hq
        obtain ⟨hk, hs⟩ := NoticeVal.sameKey_iff.mp hq
        rw [NoticeVal.fold_kind, NoticeVal.fold_subject, hk, hs]
      · rfl
    refine ⟨by simpa using hlen, ?_, fun q hq => ?_⟩
    · rw [List.map_map]
      exact (List.map_congr_left fun q _ => keys q) ▸ hnodup
    · obtain ⟨q', hq', rfl⟩ := List.mem_map.mp hq
      obtain ⟨henabled, hcount, hclip⟩ := hmem q' hq'
      split
      · refine ⟨?_, hcount.trans (le_satInc _), NoticeVal.fold_clipLegal hclip hv⟩
        rw [maskEnables, NoticeVal.fold_kind]
        simpa using hmask
      · exact ⟨henabled, hcount, hclip⟩
  · rename_i hnew
    split
    · refine ⟨by simpa using by omega, ?_, fun q hq => ?_⟩
      · rw [List.map_append]
        refine List.nodup_append.mpr ⟨hnodup, List.nodup_singleton _, fun key hkey key' hkey' => ?_⟩
        obtain ⟨q, hq, rfl⟩ := List.mem_map.mp hkey
        obtain rfl := List.mem_singleton.mp hkey'
        intro same
        obtain ⟨hk, hs⟩ := Prod.mk.inj same
        exact hnew (List.any_eq_true.mpr ⟨q, hq, NoticeVal.sameKey_iff.mpr ⟨hk, hs⟩⟩)
      · obtain hq | hq := List.mem_append.mp hq
        · exact hmem q hq
        · obtain rfl := List.mem_singleton.mp hq
          exact ⟨by simpa [maskEnables] using hmask, by simp, hv⟩
    · exact ⟨hlen, hnodup, hmem⟩

/-- Notices taken out of the queue leave it legal. -/
theorem NoticeSide.legal_sublist {n : NoticeSide} {l : List Notice} (h : n.legal) (hl : l.Sublist n.queue)
    (lost : BitVec 8) (seq : Tag) : NoticeSide.legal { n with queue := l, lost := lost, seq := seq } := by
  obtain ⟨hlen, hnodup, hmem⟩ := h
  exact ⟨hl.length_le.trans hlen, hnodup.sublist (hl.map _), fun q hq => hmem q (hl.subset hq)⟩

/-- A new mask leaves the notices it enables (R55). -/
theorem NoticeSide.legal_mask {n : NoticeSide} (h : n.legal) (mask : BitVec 8) :
    NoticeSide.legal { n with mask := mask, queue := n.queue.filter (maskEnables mask) } := by
  obtain ⟨hlen, hnodup, hmem⟩ := h
  refine ⟨(List.length_filter_le _ _).trans hlen, hnodup.sublist (List.filter_sublist.map _), fun q hq => ?_⟩
  obtain ⟨hq, henabled⟩ := List.mem_filter.mp hq
  exact ⟨henabled, (hmem q hq).2⟩

/-- An emptied CLIP notice keeps its kind and subject and is within its bounds (R115). -/
theorem NoticeVal.emptyClip_keeps (v : NoticeVal) : v.emptyClip.kind = v.kind ∧ v.emptyClip.subject = v.subject ∧
    (v.clipLegal = true → v.emptyClip.clipLegal = true) := by
  cases v with
  | clip f slots overflow => exact ⟨rfl, rfl, fun _ => by simp [NoticeVal.emptyClip, NoticeVal.clipLegal]⟩
  | _ => exact ⟨rfl, rfl, id⟩

/-- The clear option of READ CLIPS leaves the Notice Queue legal (R115). -/
theorem NoticeSide.legal_emptyClip {n : NoticeSide} (h : n.legal) :
    NoticeSide.legal { n with queue := n.queue.map fun q => { q with val := q.val.emptyClip } } := by
  obtain ⟨hlen, hnodup, hmem⟩ := h
  refine ⟨by simpa using hlen, ?_, fun q hq => ?_⟩
  · rw [List.map_map]
    refine (List.map_congr_left fun q _ => ?_) ▸ hnodup
    obtain ⟨hk, hs, -⟩ := q.val.emptyClip_keeps
    exact (Prod.ext hk hs).symm
  · obtain ⟨q', hq', rfl⟩ := List.mem_map.mp hq
    obtain ⟨hk, -, hlegal⟩ := q'.val.emptyClip_keeps
    obtain ⟨henabled, hcount, hclip⟩ := hmem q' hq'
    exact ⟨by rw [maskEnables, hk]; exact henabled, hcount, hlegal hclip⟩

/-- The notice side of reset is legal (R56). -/
theorem NoticeSide.legal_reset : NoticeSide.reset.legal :=
  ⟨Nat.zero_le _, List.nodup_nil, fun _ hq => by cases hq⟩

/-! ## Requests and parts of an event -/

/-- The law reads the parser and the notices alone. -/
theorem State.inboundLaw_congr {s u : State} (hp : u.parser = s.parser) (hn : u.notices = s.notices) (h : s.inboundLaw) :
    u.inboundLaw := by
  rwa [State.inboundLaw, hp, hn]

/-- A legal posting keeps the law. -/
theorem State.inboundLaw_post {s : State} {v : NoticeVal} (h : s.inboundLaw) (hv : v.clipLegal = true) :
    (s.post v).inboundLaw := ⟨h.1, NoticeSide.legal_post h.2 hv⟩

/-- What the requests' rules and the blocks' parts write keeps the law. -/
theorem State.inboundLaw_moves : RuleMoves State.inboundLaw where
  active _ _ _ h := h
  clean _ h := h
  commit _ _ h := h
  groups _ _ h := h
  replies _ _ h := h
  mixer _ _ h := h
  memory _ _ h := h
  regions _ _ h := h
  players _ _ h := h
  pins _ _ h := h
  frame _ _ h := h
  post _ _ hv h := State.inboundLaw_post h hv
  watch _ _ _ _ _ h := h
  capture _ _ _ _ h := h
  stage _ _ _ _ _ h := h
  unstage _ h := h
  configure _ h := h
  routes _ h := h
  start _ _ _ h := h
  arm _ _ _ _ h := h
  mask _ m h := ⟨h.1, NoticeSide.legal_mask h.2 m⟩
  clips _ h := ⟨h.1, NoticeSide.legal_emptyClip h.2⟩
  counters _ h := h
  lanes _ _ _ _ _ h := h

/-- A taking and its completion keep the law (R42 to R44). -/
theorem State.inboundLaw_complete {s : State} (q : Queued) (h : s.inboundLaw) :
    (s.complete q.tag (q.outcome s)).inboundLaw := by
  have left := State.inboundLaw_moves.outcome h q
  cases ho : q.outcome s <;> rw [ho] at left
  · exact h
  · exact left
  · exact left
  · exact h

/-- The Executor working off its queue keeps the law (R41). -/
theorem State.inboundLaw_drain {s : State} (n : Nat) (h : s.inboundLaw) : (s.drain n).inboundLaw :=
  State.drain_keeps (fun s q rest _ _ hs =>
    State.inboundLaw_complete (s := s.postEnds.setCmdq rest) q (State.inboundLaw_moves.postEnds hs)) n s h

/-- The outcome of the trailer checks keeps the law (R28, R47). -/
theorem State.inboundLaw_settle {s : State} (tag : Tag) (code : Code) (res : Bool) (body : List Payload)
    (verdict : Option Status) (h : s.inboundLaw) : (s.settle tag code res body verdict).inboundLaw := by
  simp only [State.settle]
  repeat' split
  · exact h
  · exact h
  · exact State.inboundLaw_drain _ h

/-! ## The parser -/

/-- In HUNT the parser's bounds are those of its two runs. -/
theorem Parser.legal_hunt {p : Parser} (hrx : p.rx = none) (hg : p.gap ≤ Config.gapLimit) (hb : p.breakRun ≤ 3) :
    p.legal := ⟨hg, hb, by simp [hrx]⟩

/-- An abandonment keeps the law (R30). -/
theorem State.inboundLaw_abandon {s : State} (reason : Reason) (frame : FrameNo) (h : s.inboundLaw) :
    (s.abandon reason frame).inboundLaw := by
  have ⟨⟨hgap, hrun, _⟩, hn⟩ := h
  simp only [State.abandon]
  split
  · exact h
  · exact ⟨Parser.legal_hunt rfl hgap hrun, NoticeSide.legal_post hn rfl⟩

/-- The parser at a loss of lock or a moved link keeps the law (R29, R37). -/
theorem State.inboundLaw_lost {s : State} (reason : Reason) (frame : FrameNo) (h : s.inboundLaw) :
    ((s.setParser s.parser.lost).setNotices (s.parser.lostNotice reason frame s.notices)).inboundLaw := by
  refine ⟨Parser.legal_hunt rfl (Nat.zero_le _) (Nat.zero_le _), ?_⟩
  simp only [State.setNotices_notices, Parser.lostNotice]
  split
  · exact h.2
  · exact NoticeSide.legal_post h.2 rfl

/-- A gap word keeps the law: the ninth in a row abandons the message (R27). -/
theorem State.inboundLaw_takeGap {s : State} (h : s.inboundLaw) : s.takeGap.inboundLaw := by
  simp only [State.takeGap]
  repeat' split
  · exact h
  · exact State.inboundLaw_abandon _ _ h
  · rename_i hgap
    obtain ⟨⟨-, hrun, hrx⟩, hn⟩ := h
    exact ⟨⟨Nat.lt_of_not_le hgap, hrun, hrx⟩, hn⟩

/-- A header keeps the law: a message begins with a request's header alone (R24). -/
theorem State.inboundLaw_takeHeader {s : State} (w : LinkBits) (h : s.inboundLaw) : (s.takeHeader w).inboundLaw := by
  simp only [State.takeHeader]
  split
  · rename_i ho
    obtain ⟨⟨-, hrun, -⟩, hn⟩ := h
    refine ⟨⟨Nat.zero_le _, hrun, ?_⟩, hn⟩
    rintro _ ⟨⟩
    exact ⟨Nat.zero_le _, ho⟩
  · exact h

/-- A trailer keeps the law (R28). -/
theorem State.inboundLaw_takeTrailer {s : State} (m : Rx) (echo : Tag) (crc : BitVec 16) (h : s.inboundLaw) :
    (s.takeTrailer m echo crc).inboundLaw := by
  obtain ⟨⟨hgap, hrun, -⟩, hn⟩ := h
  have hunt : ∀ errors, (s.setParser { s.parser with rx := none, crcErrors := errors }).inboundLaw :=
    fun _ => ⟨Parser.legal_hunt rfl hgap hrun, hn⟩
  simp only [State.takeTrailer]
  repeat' split
  all_goals exact State.inboundLaw_settle _ _ _ _ _ (hunt _)

/-- A link resync keeps the law (R33 to R35). -/
theorem State.inboundLaw_resync {s : State} (h : s.inboundLaw) : s.resync.inboundLaw :=
  ⟨Parser.legal_hunt rfl (Nat.zero_le _) (Nat.zero_le _), NoticeSide.legal_post h.2 rfl⟩

/-- The parser's word keeps the law (R22 to R28, R33). -/
theorem State.inboundLaw_parserWord {s : State} (w : LinkBits) (h : s.inboundLaw) : (s.parserWord w).inboundLaw := by
  have ⟨⟨hgap, hrun, hrx⟩, hn⟩ := h
  have cleared : (s.setParser { s.parser with breakRun := 0, gap := 0 }).inboundLaw :=
    ⟨⟨Nat.zero_le _, Nat.zero_le _, hrx⟩, hn⟩
  simp only [State.parserWord]
  split
  · split
    · exact State.inboundLaw_resync h
    · rename_i hlt
      exact State.inboundLaw_takeGap ⟨⟨hgap, Nat.lt_of_not_le hlt, hrx⟩, hn⟩
  · exact State.inboundLaw_takeGap ⟨⟨hgap, Nat.zero_le _, hrx⟩, hn⟩
  · exact State.inboundLaw_takeHeader _ (State.inboundLaw_abandon _ _ cleared)
  · split
    · exact cleared
    · rename_i m hm
      split
      · rename_i hseq
        refine ⟨⟨Nat.zero_le _, Nat.zero_le _, ?_⟩, hn⟩
        rintro _ ⟨⟩
        exact ⟨by simpa using hseq.2, (hrx m hm).2⟩
      · exact State.inboundLaw_abandon _ _ cleared
  · split
    · exact cleared
    · exact State.inboundLaw_takeTrailer _ _ _ cleared

/-! ## The law is kept -/

/-- A word of a message in progress keeps the law. -/
theorem State.inboundLaw_sendWord {s : State} (m : OutMessage) (i : Nat) (h : s.inboundLaw) :
    (s.sendWord m i).1.inboundLaw := by
  obtain ⟨k, r, e, hs⟩ := s.sendWord_frame m i
  rw [hs]
  exact h

/-- The composer's word keeps the law: a chosen notice leaves the queue (R53). -/
theorem State.inboundLaw_emitWord {s : State} (h : s.inboundLaw) : s.emitWord.inboundLaw := by
  have next : s.nextWord.1.inboundLaw := by
    simp only [State.nextWord]
    split
    · exact State.inboundLaw_sendWord _ _ h
    split
    · split
      · exact State.inboundLaw_sendWord _ _ h
      · exact h
    · split
      · rename_i n rest hq
        have taken := NoticeSide.legal_sublist (l := rest) h.2
          (by rw [hq]; exact List.sublist_cons_self _ _) 0 (s.notices.seq + 1)
        exact State.inboundLaw_sendWord _ _ ⟨h.1, taken⟩
      · exact h
    · exact h
  simp only [State.emitWord]
  split
  · exact next
  all_goals exact h

/-- The three effects keep the law (R17, R37, R179). -/
theorem State.inboundLaw_takeEffect {s : State} (h : s.inboundLaw) : s.takeEffect.inboundLaw := by
  simp only [State.takeEffect]
  repeat' split
  · simp only [State.moveLink, State.abandon_clear]
    exact State.inboundLaw_lost (s := s) _ _ h
  · simp only [State.changeFormat]
    split
    · exact h
    · rw [State.enterSearch_eq]
      exact h
  · rw [State.fullReset_eq]
    exact ⟨Parser.legal_hunt rfl (Nat.zero_le _) (Nat.zero_le _), NoticeSide.legal_reset⟩
  · exact h

/-- Every part of a timing event keeps the law. -/
theorem State.inboundLaw_runPhase (s : State) (p : Phase) (h : s.inboundLaw) : (s.runPhase p).inboundLaw := by
  have posted : ∀ e, (s.postEntry e).inboundLaw := by
    rintro (_ | e)
    · exact h
    · exact State.inboundLaw_post h rfl
  have lost : ∀ e, (s.parserEntry e).inboundLaw := by
    rintro (_ | e)
    · exact h
    · rw [State.parserEntry, State.parserLost_eq]
      exact State.inboundLaw_lost _ _ h
  have parts := State.inboundLaw_moves.toPartMoves
  simp only [State.runPhase]
  split
  · exact h
  · cases p with
    | entryNotice | effectNotice => exact posted _
    | entryParser | effectParser => exact lost _
    | group g => exact parts.groupStep g h
    | commitTest => exact parts.commitStep _ h
    | player n => exact parts.playerStep n h
    | playerNotice n => exact parts.postEnd _ n h
    | output => exact parts.beginOutput h
    | mixer => exact parts.mix _ h
    | watch w => exact parts.watchStep _ w h
    | capture => exact parts.captureStep _ h
    | parser => exact State.inboundLaw_parserWord _ h
    | effect => exact State.inboundLaw_takeEffect h
    | drain => exact State.inboundLaw_drain 1 h
    | word => exact State.inboundLaw_emitWord h

/-- Every operation that a step is made of keeps the law. -/
theorem State.inboundLaw_kept : Kept State.inboundLaw where
  frame _ _ h := h
  phase := State.inboundLaw_runPhase
  deliver _ _ _ h := State.inboundLaw_settle _ _ _ _ _ h
  timing _ _ h := h
  release _ h := h
  restart s h := by rw [State.markRestart_eq]; exact h
  reset _ _ := ⟨Parser.legal_hunt rfl (Nat.zero_le _) (Nat.zero_le _), NoticeSide.legal_reset⟩
  pending _ _ h := h

/-- Settles O7: the parser's and the Notice Queue's bounds are kept by every operation, and so by every step. -/
theorem inboundLawIsKept : Obligations.InboundLawIsKept :=
  fun _ _ h hstep => State.inboundLaw_kept.step h hstep

end Sys2Proof.Machine
end

section
/-! The law of the management slots (R22, R64, R172): present, on enabled lanes, and out of all other use. -/

namespace Sys2Proof.Machine

/-! ## Use, row by row -/

/-- A staged entry leaves the slots of a link assignment alone (R64). -/
def Staged.clearOf (l : Link) (i : Slot) (e : Staged) : Prop :=
  e.names (l.inb.setWidth 7) = false ∧ (i = l.outb → e.drive = .released)

/-- An active entry leaves the slots of a link assignment alone (R64). -/
def Active.clearOf (l : Link) (i : Slot) (e : Active) : Prop :=
  (∀ k, (e.pos.row k).names (l.inb.setWidth 7) = false) ∧ (i = l.outb → e.drive = .released)

/-- An armed watch has neither slot of a link assignment as its subject (R172). -/
def Watch.clearOf (l : Link) (r : Watch) : Prop := r.state ≠ .disarmed → ∀ p ∈ r.params, l.reserves p.subject = false

/-- A running capture has neither slot of a link assignment as its subject (R136). -/
def Capture.clearOf (l : Link) (k : Capture) : Prop := k.state ≠ .idle → ∀ sub ∈ k.subject, l.reserves sub = false

/-- The subjects that a link assignment reserves are its own slots (R136, R168). -/
theorem Link.reserves_iff {l : Link} {sub : Subject} :
    l.reserves sub = false ↔ sub ≠ .input l.inb ∧ sub ≠ .output l.outb := by
  cases sub <;> simp [Link.reserves]

/-- No armed watch and no running capture has a slot of a link assignment as its subject. -/
theorem State.unusedBy_link_iff {s : State} {l : Link} : s.unusedBy (.input l.inb) ∧ s.unusedBy (.output l.outb) ↔
    (∀ w, (s.watches.row w).clearOf l) ∧ s.capture.clearOf l := by
  simp only [State.unusedBy, Watch.clearOf, Capture.clearOf, Link.reserves_iff, Option.mem_def]
  constructor
  · rintro ⟨⟨wi, ci⟩, ⟨wo, co⟩⟩
    exact ⟨fun w hd p hp => ⟨wi w p hp hd, wo w p hp hd⟩,
      fun hk sub hsub => ⟨fun e => ci hk (e ▸ hsub), fun e => co hk (e ▸ hsub)⟩⟩
  · rintro ⟨w, c⟩
    exact ⟨⟨fun n p hp hd => (w n hd p hp).1, fun hk e => (c hk _ e).1 rfl⟩,
      ⟨fun n p hp hd => (w n hd p hp).2, fun hk e => (c hk _ e).2 rfl⟩⟩

/-- What uses no slot of a link assignment, entry by entry. -/
theorem State.linkUnused_iff {s : State} {l : Link} : s.linkUnused l ↔
    (∀ i, (s.staged.row i).clearOf l i) ∧ (∀ i, (s.active.row i).clearOf l i) ∧
      (∀ w, (s.watches.row w).clearOf l) ∧ s.capture.clearOf l := by
  rw [← State.unusedBy_link_iff, State.unusedBy_iff, State.unusedBy_iff]
  constructor
  · rintro ⟨hs, ha, hds, hda, hwi, hwo, hci, hco⟩
    exact ⟨fun i => ⟨hs i, fun e => e ▸ hds⟩, fun i => ⟨ha i, fun e => e ▸ hda⟩, ⟨hwi, hci⟩, ⟨hwo, hco⟩⟩
  · rintro ⟨hs, ha, ⟨hwi, hci⟩, ⟨hwo, hco⟩⟩
    exact ⟨fun i => (hs i).1, fun i => (ha i).1, (hs l.outb).2 rfl, (ha l.outb).2 rfl, hwi, hwo, hci, hco⟩

/-- An entry that draws on entries that leave the slots alone leaves them alone. -/
theorem Active.clearOf_drawsOn {l : Link} {i : Slot} {new old : Active} {e : Staged} (h : new.DrawsOn old e)
    (ho : old.clearOf l i) (he : e.clearOf l i) : new.clearOf l i := by
  obtain ⟨hdrive, hnames⟩ := h
  refine ⟨hnames _ he.1 ho.1, fun hi => ?_⟩
  obtain hd | hd := hdrive
  · exact hd.trans (ho.2 hi)
  · exact hd.trans (he.2 hi)

/-- The staged entry of reset, dirty or not, uses no slot (R59, R66). -/
theorem Staged.clearOf_reset (l : Link) (i : Slot) (dirty : Bool) :
    Staged.clearOf l i { Staged.reset with dirty := dirty } := ⟨rfl, fun _ => rfl⟩

/-- The active entry of reset uses no slot (R61). -/
theorem Active.clearOf_reset (l : Link) (i : Slot) : Active.reset.clearOf l i :=
  ⟨fun k => by rw [Active.reset, Table.row_tab]; rfl, fun _ => rfl⟩

/-- The routing tables of reset use no slot (R59, R61, R79). -/
theorem State.linkUnused_clearRoutes {s : State} {l : Link} (hw : ∀ w, (s.watches.row w).clearOf l)
    (hc : s.capture.clearOf l) : s.clearRoutes.linkUnused l :=
  State.linkUnused_iff.mpr
    ⟨fun i => (Table.row_tab (fun _ => Staged.reset) i).symm ▸ Staged.clearOf_reset l i false,
      fun i => (Table.row_tab (fun _ => Active.reset) i).symm ▸ Active.clearOf_reset l i, hw, hc⟩

/-- The use of slots is read off the tables, the watches and the capture. -/
theorem State.linkUnused_congr {s u : State} {l : Link} (hs : u.staged = s.staged) (ha : u.active = s.active)
    (hw : u.watches = s.watches) (hc : u.capture = s.capture) (h : s.linkUnused l) : u.linkUnused l := by
  rw [State.linkUnused_iff] at h ⊢
  rwa [hs, ha, hw, hc]

/-- A Staged Table whose entries leave the slots alone where those of both tables did. -/
theorem State.linkUnused_setStaged {s : State} {l : Link} {v : Table 6 Staged} (h : s.linkUnused l)
    (hv : ∀ i, (s.staged.row i).clearOf l i → (s.active.row i).clearOf l i → (v.row i).clearOf l i) :
    (s.setStaged v).linkUnused l := by
  obtain ⟨hs, ha, hw, hc⟩ := State.linkUnused_iff.mp h
  exact State.linkUnused_iff.mpr ⟨fun i => hv i (hs i) (ha i), ha, hw, hc⟩

/-- A watch record that leaves the slots alone where the one before it did. -/
theorem State.linkUnused_putWatch {s : State} {l : Link} {w : WatchNo} {r : Watch} (h : s.linkUnused l)
    (hr : (s.watches.row w).clearOf l → r.clearOf l) : (s.putWatch w r).linkUnused l := by
  obtain ⟨hs, ha, hw, hc⟩ := State.linkUnused_iff.mp h
  refine State.linkUnused_iff.mpr ⟨hs, ha, fun x => ?_, hc⟩
  rw [State.putWatch, State.setWatches_watches, Table.row_put]
  split
  · exact hr (hw w)
  · exact hw x

/-- A part of an event brings no use of a slot. -/
theorem State.linkUnused_parts (l : Link) : PartMoves fun s => s.linkUnused l where
  active s v hv h := by
    obtain ⟨hs, ha, hw, hc⟩ := State.linkUnused_iff.mp h
    exact State.linkUnused_iff.mpr ⟨hs, fun i => Active.clearOf_drawsOn (hv i) (ha i) (hs i), hw, hc⟩
  clean s h := State.linkUnused_setStaged h fun i hs _ => by rw [Table.row_tab]; exact hs
  commit _ _ := State.linkUnused_congr rfl rfl rfl rfl
  groups _ _ := State.linkUnused_congr rfl rfl rfl rfl
  replies _ _ := State.linkUnused_congr rfl rfl rfl rfl
  mixer _ _ := State.linkUnused_congr rfl rfl rfl rfl
  memory _ _ := State.linkUnused_congr rfl rfl rfl rfl
  regions _ _ := State.linkUnused_congr rfl rfl rfl rfl
  players _ _ := State.linkUnused_congr rfl rfl rfl rfl
  pins _ _ := State.linkUnused_congr rfl rfl rfl rfl
  frame _ _ := State.linkUnused_congr rfl rfl rfl rfl
  post _ _ _ := State.linkUnused_congr rfl rfl rfl rfl
  watch s w r hp hd h := State.linkUnused_putWatch h fun hw hr p hpr => hw (fun he => hr (hd he)) p (hp ▸ hpr)
  capture s k hsub hi h := by
    obtain ⟨hs, ha, hw, hc⟩ := State.linkUnused_iff.mp h
    exact State.linkUnused_iff.mpr ⟨hs, ha, hw, fun hk sub hm => hc (fun he => hk (hi he)) sub (hsub ▸ hm)⟩

/-! ## The law -/

/-- What leaves the link, its format and its lanes, brings no fenced change of them and no use of a slot, keeps the law. -/
theorem State.linkLaw_of {s u : State} (hk : u.link = s.link) (hfmt : u.timing.format = s.timing.format)
    (hin : u.timing.inLanes = s.timing.inLanes) (hout : u.timing.outLanes = s.timing.outLanes)
    (hl : ∀ l ∈ u.executor.nextLink, l ∈ s.executor.nextLink)
    (hf : ∀ f ∈ u.executor.nextFormat, f ∈ s.executor.nextFormat)
    (hu : ∀ l, s.linkUnused l → u.linkUnused l) (h : s.linkLaw) : u.linkLaw := by
  obtain ⟨hpres, huse, hnext, hformat⟩ := h
  have present : ∀ l f, s.linkPresent l f → u.linkPresent l f := fun l f hp => by
    rwa [State.linkPresent, hin, hout]
  rw [State.linkLaw, hk, hfmt]
  exact ⟨present _ _ hpres, hu _ huse, fun l hl' => ⟨present _ _ (hnext l (hl l hl')).1, hu _ (hnext l (hl l hl')).2⟩,
    fun f hf' => present _ _ (hformat f (hf f hf'))⟩

/-- With the Executor IDLE the law says of the link in force alone. -/
theorem State.linkLaw_idle_iff {s : State} (he : s.executor = .idle) :
    s.linkLaw ↔ s.linkPresent s.link s.timing.format ∧ s.linkUnused s.link := by
  rw [State.linkLaw, he]
  exact ⟨fun h => ⟨h.1, h.2.1⟩, fun h => ⟨h.1, h.2, by simp [Executor.nextLink], by simp [Executor.nextFormat]⟩⟩

/-- The law is read off the link, the timing unit, the Executor, the tables, the watches and the capture. -/
theorem State.linkLaw_congr {s u : State} (hk : u.link = s.link) (ht : u.timing = s.timing)
    (hx : u.executor = s.executor) (hs : u.staged = s.staged) (ha : u.active = s.active)
    (hw : u.watches = s.watches) (hc : u.capture = s.capture) (h : s.linkLaw) : u.linkLaw :=
  State.linkLaw_of hk (by rw [ht]) (by rw [ht]) (by rw [ht]) (fun _ hl => hx ▸ hl) (fun _ hf => hx ▸ hf)
    (fun _ => State.linkUnused_congr hs ha hw hc) h

/-- A Staged Table that brings no use of a slot keeps the law. -/
theorem State.linkLaw_setStaged {s : State} {v : Table 6 Staged}
    (hv : ∀ l, s.linkUnused l → (s.setStaged v).linkUnused l) (h : s.linkLaw) : (s.setStaged v).linkLaw :=
  State.linkLaw_of (s := s) rfl rfl rfl rfl (fun _ => id) (fun _ => id) hv h

/-- A part of an event keeps the law. -/
theorem State.linkLaw_parts : PartMoves State.linkLaw where
  active s v hv h := State.linkLaw_of (s := s) rfl rfl rfl rfl (fun _ => id) (fun _ => id)
    (fun l hl => (State.linkUnused_parts l).active s v hv hl) h
  clean s := State.linkLaw_setStaged fun l => (State.linkUnused_parts l).clean s
  commit _ _ := State.linkLaw_congr rfl rfl rfl rfl rfl rfl rfl
  groups _ _ := State.linkLaw_congr rfl rfl rfl rfl rfl rfl rfl
  replies _ _ := State.linkLaw_congr rfl rfl rfl rfl rfl rfl rfl
  mixer _ _ := State.linkLaw_congr rfl rfl rfl rfl rfl rfl rfl
  memory _ _ := State.linkLaw_congr rfl rfl rfl rfl rfl rfl rfl
  regions _ _ := State.linkLaw_congr rfl rfl rfl rfl rfl rfl rfl
  players _ _ := State.linkLaw_congr rfl rfl rfl rfl rfl rfl rfl
  pins _ _ := State.linkLaw_congr rfl rfl rfl rfl rfl rfl rfl
  frame _ _ := State.linkLaw_congr rfl rfl rfl rfl rfl rfl rfl
  post _ _ _ := State.linkLaw_congr rfl rfl rfl rfl rfl rfl rfl
  watch s w r hp hd h := State.linkLaw_of (s := s) rfl rfl rfl rfl (fun _ => id) (fun _ => id)
    (fun l hl => (State.linkUnused_parts l).watch s w r hp hd hl) h
  capture s k hsub hi h := State.linkLaw_of (s := s) rfl rfl rfl rfl (fun _ => id) (fun _ => id)
    (fun l hl => (State.linkUnused_parts l).capture s k hsub hi hl) h

/-! ## Requests -/

/-- The law in a state in which the Executor may take a request (R41). -/
def State.linkStands (s : State) : Prop := s.linkLaw ∧ s.executor = .idle

/-- A change that leaves the link, the timing unit and the Executor keeps the law where it keeps the slots unused. -/
theorem State.linkStands_of {s u : State} (hk : u.link = s.link) (ht : u.timing = s.timing)
    (he : u.executor = s.executor) (hu : s.linkUnused s.link → u.linkUnused s.link) (h : s.linkStands) :
    u.linkStands := by
  obtain ⟨hlaw, hidle⟩ := h
  obtain ⟨hpres, huse⟩ := (State.linkLaw_idle_iff hidle).mp hlaw
  refine ⟨(State.linkLaw_idle_iff (he.trans hidle)).mpr ?_, he.trans hidle⟩
  rw [hk, State.linkPresent, ht]
  exact ⟨hpres, hu huse⟩

/-- A Staged Table that brings no use of the link's slots keeps the law. -/
theorem State.linkStands_setStaged {s : State} {v : Table 6 Staged}
    (hv : ∀ i, (s.staged.row i).clearOf s.link i → (s.active.row i).clearOf s.link i → (v.row i).clearOf s.link i)
    (h : s.linkStands) : (s.setStaged v).linkStands :=
  State.linkStands_of (s := s) rfl rfl rfl (fun hu => State.linkUnused_setStaged hu hv) h

/-- No part of an event writes the Executor's state while it is IDLE. -/
theorem State.idle_parts : PartMoves fun s => s.executor = .idle where
  active _ _ _ := id
  clean s h := (s.setStaged_executor _).trans h
  commit _ _ := id
  groups _ _ := id
  replies _ _ := id
  mixer _ _ := id
  memory _ _ := id
  regions _ _ := id
  players _ _ := id
  pins _ _ := id
  frame _ _ := id
  post _ _ _ := id
  watch _ _ _ _ _ := id
  capture _ _ _ _ := id

/-- What keeps two properties keeps both. -/
theorem PartMoves.and {P Q : State → Prop} (p : PartMoves P) (q : PartMoves Q) : PartMoves fun s => P s ∧ Q s where
  active s v hv := And.imp (p.active s v hv) (q.active s v hv)
  clean s := And.imp (p.clean s) (q.clean s)
  commit s v := And.imp (p.commit s v) (q.commit s v)
  groups s v := And.imp (p.groups s v) (q.groups s v)
  replies s v := And.imp (p.replies s v) (q.replies s v)
  mixer s v := And.imp (p.mixer s v) (q.mixer s v)
  memory s v := And.imp (p.memory s v) (q.memory s v)
  regions s v := And.imp (p.regions s v) (q.regions s v)
  players s v := And.imp (p.players s v) (q.players s v)
  pins s v := And.imp (p.pins s v) (q.pins s v)
  frame s v := And.imp (p.frame s v) (q.frame s v)
  post s v hv := And.imp (p.post s v hv) (q.post s v hv)
  watch s w r hp hd := And.imp (p.watch s w r hp hd) (q.watch s w r hp hd)
  capture s k hs hi := And.imp (p.capture s k hs hi) (q.capture s k hs hi)

/-- Clearing the routing tables keeps the law (R79). -/
theorem State.linkStands_clearRoutes {s : State} (h : s.linkStands) : s.clearRoutes.linkStands :=
  State.linkStands_of (s := s) rfl rfl rfl (fun hu => by
    obtain ⟨-, -, hw, hc⟩ := State.linkUnused_iff.mp hu
    exact State.linkUnused_clearRoutes hw hc) h

/-- A request's rule keeps the law: what it stages, arms or starts has been checked against the link in force, and the
lanes it sets keep the link's (R18, R36, R65, R136, R168). -/
theorem State.linkStands_moves : RuleMoves State.linkStands where
  toPartMoves := State.linkLaw_parts.and State.idle_parts
  stage s i e hn hd := State.linkStands_setStaged fun j hs _ => by
    rw [Table.row_put]
    split
    · rename_i hj
      exact ⟨hn, fun ho => hd (hj.symm.trans ho)⟩
    · exact hs
  unstage s := State.linkStands_setStaged fun j _ _ => by
    rw [Table.row_tab]
    exact Staged.clearOf_reset _ j true
  configure s := State.linkStands_setStaged fun j _ ha => by
    rw [Table.row_tab]
    exact ⟨Active.configured_names ha.1, ha.2⟩
  routes _ := State.linkStands_clearRoutes
  start s k hk h := State.linkStands_of (s := s) rfl rfl rfl (fun hu => by
    obtain ⟨hs, ha, hw, -⟩ := State.linkUnused_iff.mp hu
    exact State.linkUnused_iff.mpr ⟨hs, ha, hw, fun _ => hk⟩) h
  arm s w r hr := State.linkStands_of (s := s) rfl rfl rfl fun hu => State.linkUnused_putWatch hu fun _ _ => hr
  mask s _ := State.linkStands_of (s := s) rfl rfl rfl (State.linkUnused_congr rfl rfl rfl rfl)
  clips s := State.linkStands_of (s := s) rfl rfl rfl (State.linkUnused_congr rfl rfl rfl rfl)
  counters s h := ⟨State.linkLaw_of (s := s) rfl rfl rfl rfl (fun _ => id) (fun _ => id)
    (fun _ => State.linkUnused_congr rfl rfl rfl rfl) h.1, h.2⟩
  lanes s ins outs hi ho h := by
    obtain ⟨hlaw, hidle⟩ := h
    obtain ⟨⟨hpi, hpo, -, -⟩, huse⟩ := (State.linkLaw_idle_iff hidle).mp hlaw
    exact ⟨(State.linkLaw_idle_iff (by exact hidle)).mpr ⟨⟨hpi, hpo, hi, ho⟩, huse⟩, hidle⟩

/-- Slots that MOVE LINK may take are used by nothing (R36). -/
theorem State.linkUnused_of_free {s : State} {inb outb : Slot} (hu : s.linkUnused s.link)
    (hi : s.inboundFree inb = true) (ho : s.outboundFree outb = true) : s.linkUnused ⟨inb, outb⟩ := by
  obtain ⟨hs, ha, hds, hda, hwi, hwo, hci, hco⟩ := hu
  simp only [State.inboundFree, Bool.or_eq_true, Bool.and_eq_true, Bool.not_eq_true', beq_iff_eq, any_rows_eq_false,
    and_assoc] at hi
  simp only [State.outboundFree, Bool.or_eq_true, Bool.and_eq_true, Bool.not_eq_true', beq_iff_eq, and_assoc] at ho
  have inFree : (∀ i, ((s.staged.row i).list.any fun c => c.source == inb.setWidth 7) = false) ∧
      (∀ i k, ((s.active.row i).pos.row k).names (inb.setWidth 7) = false) ∧
      s.watched (.input inb) = false ∧ s.captured (.input inb) = false := by
    obtain rfl | h := hi
    · exact ⟨hs, ha, hwi, hci⟩
    · exact h
  have outFree : (s.staged.row outb).drive = .released ∧ (s.active.row outb).drive = .released ∧
      s.watched (.output outb) = false ∧ s.captured (.output outb) = false := by
    obtain rfl | h := ho
    · exact ⟨hds, hda, hwo, hco⟩
    · exact h
  obtain ⟨hs', ha', hwi', hci'⟩ := inFree
  obtain ⟨hds', hda', hwo', hco'⟩ := outFree
  exact ⟨hs', ha', hds', hda', hwi', hwo', hci', hco'⟩

/-- A fence on an effect that has been checked keeps the law (R16, R36, R44). -/
theorem State.linkLaw_fenced {s : State} {eff : Effect} (h : s.linkStands) (hq : s.Fenceable eff) (tag : Tag)
    (out : Bool) : (s.setExecutor (.fenced tag eff out)).linkLaw := by
  obtain ⟨hpres, huse⟩ := (State.linkLaw_idle_iff h.2).mp h.1
  refine ⟨hpres, huse, fun l hl => ?_, fun f hf => ?_⟩
  · cases eff with
    | moveLink inb outb =>
      cases hl
      obtain ⟨hp, hi, ho⟩ := hq
      exact ⟨hp, State.linkUnused_of_free huse hi ho⟩
    | setFormat | resetFull => cases hl
  · cases eff with
    | setFormat =>
      cases hf
      exact ⟨hq.1, hq.2, hpres.2.2⟩
    | moveLink | resetFull => cases hf

/-- A taking and its completion keep the law (R42 to R44). -/
theorem State.linkLaw_complete {s : State} (q : Queued) (h : s.linkStands) :
    (s.complete q.tag (q.outcome s)).linkLaw := by
  have left := State.linkStands_moves.outcome h q
  cases ho : q.outcome s <;> rw [ho] at left
  · exact h.1
  · exact left.1
  · exact left.1
  · exact State.linkLaw_fenced (s := s.reply q.tag .done _) h left _ _

/-- The Executor working off its queue keeps the law (R41). -/
theorem State.linkLaw_drain {s : State} (n : Nat) (h : s.linkLaw) : (s.drain n).linkLaw :=
  State.drain_keeps (fun s q rest he _ hs =>
    State.linkLaw_complete (s := s.postEnds.setCmdq rest) q (State.linkStands_moves.postEnds ⟨hs, he⟩)) n s h

/-- The outcome of the trailer checks keeps the law (R28, R47). -/
theorem State.linkLaw_settle {s : State} (tag : Tag) (code : Code) (res : Bool) (body : List Payload)
    (verdict : Option Status) (h : s.linkLaw) : (s.settle tag code res body verdict).linkLaw := by
  simp only [State.settle]
  repeat' split
  · exact h
  · exact h
  · exact State.linkLaw_drain _ h

/-! ## Parts of an event -/

/-- A link resync keeps the law: it may release a fence (R34). -/
theorem State.linkLaw_resync {s : State} (h : s.linkLaw) : s.resync.linkLaw := by
  have kept : ∀ x : Executor, x = .idle ∨ x = s.executor → (s.setExecutor x).linkLaw := by
    rintro x (rfl | rfl)
    · exact (State.linkLaw_idle_iff rfl).mpr ⟨h.1, h.2.1⟩
    · exact h
  refine kept _ ?_
  split
  · exact .inl rfl
  · exact .inr rfl

/-- The parser's word keeps the law. -/
theorem State.linkLaw_parserWord {s : State} (w : LinkBits) (h : s.linkLaw) : (s.parserWord w).linkLaw := by
  obtain ⟨p, n, e⟩ | e | ⟨p, tag, code, res, body, v, e⟩ := s.parserWord_cases w <;> rw [e]
  · exact h
  · exact State.linkLaw_resync h
  · exact State.linkLaw_settle _ _ _ _ _ h

/-- The trailer of a reply changes no effect that waits (R44). -/
theorem Executor.afterTrailer_next (e : Executor) (r : Reply) :
    (e.afterTrailer r).nextLink = e.nextLink ∧ (e.afterTrailer r).nextFormat = e.nextFormat := by
  have emitted : ∀ tag eff, (Executor.fenced tag eff true).nextLink = (Executor.fenced tag eff false).nextLink ∧
      (Executor.fenced tag eff true).nextFormat = (Executor.fenced tag eff false).nextFormat := by
    intro tag eff
    cases eff <;> exact ⟨rfl, rfl⟩
  simp only [Executor.afterTrailer]
  repeat' split
  · exact emitted _ _
  · exact ⟨rfl, rfl⟩
  · exact ⟨rfl, rfl⟩

/-- A freed place keeps the law (R44, R48). -/
theorem State.linkLaw_freePlace {s : State} (h : s.linkLaw) : s.freePlace.linkLaw := by
  cases hr : s.replies.ready with
  | nil => simpa only [State.freePlace, hr] using h
  | cons r rest =>
    obtain ⟨hl, hf⟩ := s.executor.afterTrailer_next r
    rw [State.freePlace_cons hr]
    exact State.linkLaw_of (s := s) rfl rfl rfl rfl (fun l hm => hl ▸ hm) (fun f hm => hf ▸ hm)
      (fun _ => State.linkUnused_congr rfl rfl rfl rfl) h

/-- A word of a message in progress keeps the law. -/
theorem State.linkLaw_sendWord {s : State} (m : OutMessage) (i : Nat) (h : s.linkLaw) :
    (s.sendWord m i).1.linkLaw := by
  simp only [State.sendWord]
  repeat' split
  · exact State.linkLaw_freePlace h
  · exact h
  · exact h

/-- The composer's word keeps the law. -/
theorem State.linkLaw_emitWord {s : State} (h : s.linkLaw) : s.emitWord.linkLaw := by
  have next : s.nextWord.1.linkLaw := by
    simp only [State.nextWord]
    split
    · exact State.linkLaw_sendWord _ _ h
    split
    · split
      · exact State.linkLaw_sendWord _ _ (State.linkLaw_congr (s := s) rfl rfl rfl rfl rfl rfl rfl h)
      · exact h
    · split
      · exact State.linkLaw_sendWord _ _ (State.linkLaw_congr (s := s) rfl rfl rfl rfl rfl rfl rfl h)
      · exact h
    · exact h
  simp only [State.emitWord]
  split
  · exact next
  all_goals exact h

/-- With the watches of reset and no capture running nothing has a slot as its subject. -/
theorem State.linkUnused_reset {u : State} (hs : u.staged = Table.tab fun _ => Staged.reset)
    (ha : u.active = Table.tab fun _ => Active.reset) (hw : u.watches = Table.tab fun _ => Watch.reset)
    (hc : u.capture.state = .idle) (l : Link) : u.linkUnused l := by
  refine State.linkUnused_iff.mpr ⟨fun i => ?_, fun i => ?_, fun w => ?_, fun hn => absurd hc hn⟩
  · rw [hs, Table.row_tab]; exact Staged.clearOf_reset l i false
  · rw [ha, Table.row_tab]; exact Active.clearOf_reset l i
  · rw [hw, Table.row_tab]; exact fun hn => absurd rfl hn

/-- The three effects keep the law: a moved link and a new format are those the fence was taken for (R17, R37, R179). -/
theorem State.linkLaw_takeEffect {s : State} (h : s.linkLaw) : s.takeEffect.linkLaw := by
  obtain ⟨hpres, huse, hnext, hformat⟩ := id h
  simp only [State.takeEffect]
  split
  · rename_i tag eff hx
    rw [hx] at hnext hformat
    cases eff with
    | moveLink inb outb =>
      simp only [State.moveLink, State.abandon_clear]
      exact (State.linkLaw_idle_iff rfl).mpr (hnext ⟨inb, outb⟩ rfl)
    | setFormat f =>
      simp only [State.changeFormat]
      split
      · exact (State.linkLaw_idle_iff rfl).mpr ⟨hformat f rfl, huse⟩
      · rw [State.enterSearch_eq]
        exact (State.linkLaw_idle_iff rfl).mpr ⟨hformat f rfl, huse⟩
    | resetFull =>
      rw [State.fullReset_eq]
      refine (State.linkLaw_idle_iff rfl).mpr ⟨hpres, State.linkUnused_reset rfl rfl rfl ?_ _⟩
      show s.capture.fullReset.state = .idle
      simp only [Capture.fullReset]
      split <;> rfl
  · exact h

/-- Every part of a timing event keeps the law. -/
theorem State.linkLaw_runPhase (s : State) (p : Phase) (h : s.linkLaw) : (s.runPhase p).linkLaw := by
  simp only [State.runPhase]
  split
  · exact h
  · rename_i c _
    cases p with
    | entryNotice | effectNotice => obtain ⟨n, e⟩ := s.postEntry_frame c.entry; simp only [e]; exact h
    | entryParser | effectParser => obtain ⟨p, n, e⟩ := s.parserEntry_frame c.entry; simp only [e]; exact h
    | group g => exact State.linkLaw_parts.groupStep g h
    | commitTest => exact State.linkLaw_parts.commitStep _ h
    | player n => exact State.linkLaw_parts.playerStep n h
    | playerNotice n => exact State.linkLaw_parts.postEnd c n h
    | output => exact State.linkLaw_parts.beginOutput h
    | mixer => exact State.linkLaw_parts.mix c h
    | watch w => exact State.linkLaw_parts.watchStep c w h
    | capture => exact State.linkLaw_parts.captureStep c h
    | parser => exact State.linkLaw_parserWord c.word h
    | effect => exact State.linkLaw_takeEffect h
    | drain => exact State.linkLaw_drain 1 h
    | word => exact State.linkLaw_emitWord h

/-! ## The law is kept -/

/-- A command of the timing unit, before the parts of its event are taken, writes its own record, what it releases and the
restart mark, and leaves the format and the lanes. -/
theorem State.Opens.frame {s u : State} {i : Instr} (ho : s.Opens i u) :
    u = { s with timing := u.timing, mixer := u.mixer, pins := u.pins, composer := u.composer } ∧
      u.timing.format = s.timing.format ∧ u.timing.inLanes = s.timing.inLanes ∧
      u.timing.outLanes = s.timing.outLanes := by
  cases ho with
  | earlyEdge | fsyncMissing => rw [State.markRestart_eq]; exact ⟨rfl, rfl, rfl, rfl⟩
  | holdoverExpired | expiredAtEdge | clockAbsent => rw [State.enterSearch_eq]; exact ⟨rfl, rfl, rfl, rfl⟩
  | _ => exact ⟨rfl, rfl, rfl, rfl⟩

/-- What a command of the timing unit makes of the machine before the parts of its event are taken keeps the law. -/
theorem State.Opens.linkLaw {s u : State} {i : Instr} (ho : s.Opens i u) (h : s.linkLaw) : u.linkLaw := by
  obtain ⟨hu, hfmt, hin, hout⟩ := ho.frame
  have hexec : u.executor = s.executor := by rw [hu]
  refine State.linkLaw_of (by rw [hu]) hfmt hin hout (fun _ hl => hexec ▸ hl) (fun _ hf => hexec ▸ hf)
    (fun l hl => ?_) h
  rw [hu]
  exact hl

/-- After pin reset the law holds: IN 0.7 and OUT 0.7 in the format and on the lanes of reset (R2, R4, R22). -/
theorem State.linkLaw_pinReset (s : State) : s.pinReset.linkLaw :=
  (State.linkLaw_idle_iff rfl).mpr ⟨show State.reset.linkPresent Link.reset Format.reset by decide,
    State.linkUnused_reset rfl rfl rfl rfl _⟩

/-- Every command keeps the law of the management slots. -/
theorem State.linkLaw_exec {i : Instr} {s t : State} (h : s.linkLaw) (he : exec i s = .next t) : t.linkLaw := by
  have frame : ∀ (u : State) f, u.linkLaw → (u.setFrame f).linkLaw := fun _ _ hu => hu
  have due : ∀ (u : State) p d, u.linkLaw → (u.takeDue p d).linkLaw := fun u p d hu =>
    State.takeDue_keeps frame State.linkLaw_runPhase p d hu
  have finish : s.finish.linkLaw := State.finish_keeps frame State.linkLaw_runPhase h
  cases exec_completes he with
  | idle => exact h
  | pinReset => exact s.linkLaw_pinReset
  | entered ho => exact ho.linkLaw finish
  | event kind entry inp phases sch ho =>
    exact State.event_keeps frame State.linkLaw_runPhase kind entry inp phases sch (ho.linkLaw finish)
  | part i p d => exact due s p d h
  | parts i p q d d' => exact due _ q d' (due s p d h)
  | request i code r => exact State.linkLaw_settle _ _ _ _ _ h

/-- Settles O6: the law of the management slots is kept by every command, and so by every step. -/
theorem linkLawIsKept : Obligations.LinkLawIsKept := by
  intro s t h hstep
  simp only [step] at hstep
  split at hstep
  · cases hstep
    exact State.finish_keeps (fun _ _ hu => hu) State.linkLaw_runPhase h
  · rename_i rest _
    exact State.linkLaw_exec (s := s.setPending rest) h hstep

end Sys2Proof.Machine
end

section
/-! The link words read back (R21, R181, R182), and the words of a message (R20). -/

namespace Sys2Proof

open BitVec (extractLsb'_append_eq_of_le extractLsb'_append_eq_of_add_le)

/-! ## The fields of a header -/

section Header

variable (origin : BitVec 2) (tag : Tag) (code : Code) (length : BitVec 6) (low : BitVec 10)

/-- A header's bits, from the fields it is laid out from. -/
theorem extract_headerWord (start len : Nat) : (headerWord origin tag code length low).extractLsb' start len =
    (1#2 ++ origin ++ tag ++ code ++ length ++ low).extractLsb' start len := rfl

@[simp] theorem Header.origin_headerWord : Header.origin (headerWord origin tag code length low) = origin := by
  simp [-Nat.reduceAdd, Header.origin, extract_headerWord, extractLsb'_append_eq_of_le, extractLsb'_append_eq_of_add_le]

@[simp] theorem Header.tag_headerWord : Header.tag (headerWord origin tag code length low) = tag := by
  simp [-Nat.reduceAdd, Header.tag, extract_headerWord, extractLsb'_append_eq_of_le, extractLsb'_append_eq_of_add_le]

@[simp] theorem Header.code_headerWord : Header.code (headerWord origin tag code length low) = code := by
  simp [-Nat.reduceAdd, Header.code, extract_headerWord, extractLsb'_append_eq_of_le, extractLsb'_append_eq_of_add_le]

@[simp] theorem Header.length_headerWord : Header.length (headerWord origin tag code length low) = length := by
  simp [-Nat.reduceAdd, Header.length, extract_headerWord, extractLsb'_append_eq_of_le, extractLsb'_append_eq_of_add_le]

@[simp] theorem Header.reservedSet_headerWord :
    Header.reservedSet (headerWord origin tag code length low) = (low != 0) := by
  simp [-Nat.reduceAdd, Header.reservedSet, extract_headerWord, extractLsb'_append_eq_of_add_le]

/-! ## The class of a word -/

@[simp] theorem LinkWord.ofBits_headerWord :
    LinkWord.ofBits (headerWord origin tag code length low) = .header (headerWord origin tag code length low) := by
  have kind : (headerWord origin tag code length low).extractLsb' 30 2 = 0b01#2 := by
    simp [-Nat.reduceAdd, extract_headerWord, extractLsb'_append_eq_of_le]
  simp [LinkWord.ofBits, kind]

end Header

/-- A body word's bits, from the fields it is laid out from. -/
theorem extract_bodyWord (index : BitVec 6) (p : Payload) (start len : Nat) :
    (bodyWord index p).extractLsb' start len = (2#2 ++ index ++ p).extractLsb' start len := rfl

@[simp] theorem LinkWord.ofBits_bodyWord (index : BitVec 6) (p : Payload) :
    LinkWord.ofBits (bodyWord index p) = .body index p := by
  simp [-Nat.reduceAdd, LinkWord.ofBits, extract_bodyWord, extractLsb'_append_eq_of_le,
    extractLsb'_append_eq_of_add_le]

/-- A trailer's bits, from the fields it is laid out from. -/
theorem extract_trailerWord (echo : Tag) (crc : BitVec 16) (low : BitVec 8) (start len : Nat) :
    (trailerWord echo crc low).extractLsb' start len = (3#2 ++ echo ++ crc ++ low).extractLsb' start len := rfl

@[simp] theorem LinkWord.ofBits_trailerWord (echo : Tag) (crc : BitVec 16) (low : BitVec 8) :
    LinkWord.ofBits (trailerWord echo crc low) = .trailer echo crc := by
  simp [-Nat.reduceAdd, LinkWord.ofBits, extract_trailerWord, extractLsb'_append_eq_of_le,
    extractLsb'_append_eq_of_add_le]

/-- An IDLE-kind word that is not BREAK is IDLE, whatever its other bits (R182). -/
theorem LinkWord.ofBits_idle {low : BitVec 30} (h : low ≠ BitVec.allOnes 30) :
    LinkWord.ofBits (0#2 ++ low) = .idle := by
  have kind : (0#2 ++ low).extractLsb' 30 2 = 0#2 := BitVec.extractLsb'_append_eq_left
  have rest : (0#2 ++ low).extractLsb' 0 30 = low := BitVec.extractLsb'_append_eq_right
  rw [LinkWord.ofBits, if_pos kind, rest, if_neg h]

/-! ## The CRC -/

/-- The division takes one bit: the polynomial is added where the bit that leaves differs from the bit that enters. -/
theorem crcBit_eq (r : BitVec 16) (b : Bool) : crcBit r b = if r.msb = b then r <<< 1 else (r <<< 1) ^^^ 0x1021#16 := by
  unfold crcBit
  cases r.msb <;> cases b <;> rfl

/-- A word's bits enter the CRC from bit 31 down, after those of the words before it (R21). -/
theorem crcOf_concat (words : List LinkBits) (w : LinkBits) : crcOf (words ++ [w]) =
    (List.range 32).foldl (fun (r : BitVec 16) j => if r.msb = w.getLsbD (31 - j) then r <<< 1 else (r <<< 1) ^^^ 0x1021#16)
      (crcOf words) := by
  simp only [crcOf, List.flatMap_append, List.foldl_append, List.flatMap_singleton, wordBits, List.foldl_map, crcBit_eq]


/-- Settles O22, field by field and class by class. -/
theorem linkWordsReadBack : Obligations.LinkWordsReadBack := by
  unfold Obligations.LinkWordsReadBack
  refine ⟨fun _ _ _ _ _ _ _ _ _ => ⟨rfl, rfl, rfl⟩, ⟨rfl, crcOf_concat⟩, rfl, rfl,
    fun _ => LinkWord.ofBits_idle, fun origin tag code length low => ?_, LinkWord.ofBits_bodyWord,
    LinkWord.ofBits_trailerWord⟩
  simp

end Sys2Proof
end

section
/-! The words of a message (R20, R21, R182) and the arbiter's choice (R53, R57). -/

namespace Sys2Proof

/-! ## The words of a message -/

@[simp] theorem length_bodyWords (body : List Payload) : (bodyWords body).length = body.length :=
  List.length_mapIdx

section Message

variable (origin : BitVec 2) (tag : Tag) (code : Code) (body : List Payload) (frame : FrameNo)

/-- A message is its front, header and body, and a trailer with the front's CRC (R20, R21). -/
theorem messageWords_eq : messageWords origin tag code body frame =
    headerWord origin tag code (BitVec.ofNat 6 body.length) (frame.extractLsb' 0 10) :: (bodyWords body ++
      [trailerWord tag (crcOf (headerWord origin tag code (BitVec.ofNat 6 body.length) (frame.extractLsb' 0 10) ::
        bodyWords body)) (frame.extractLsb' 10 8)]) := rfl

@[simp] theorem length_messageWords : (messageWords origin tag code body frame).length = body.length + 2 := by
  simp [messageWords_eq]

/-- The first word of a message is its header. -/
theorem messageWords_header : (messageWords origin tag code body frame)[0]? =
    some (headerWord origin tag code (BitVec.ofNat 6 body.length) (frame.extractLsb' 0 10)) := rfl

/-- The words after the header are the body's, each with its position. -/
theorem messageWords_body {i : Nat} {p : Payload} (h : body[i]? = some p) :
    (messageWords origin tag code body frame)[i + 1]? = some (bodyWord (BitVec.ofNat 6 i) p) := by
  have hi : i < (bodyWords body).length := by
    simpa using (List.getElem?_eq_some_iff.mp h).1
  rw [messageWords_eq, List.getElem?_cons_succ, List.getElem?_append_left hi, bodyWords, List.getElem?_mapIdx, h]
  rfl

/-- The last word of a message is its trailer, with the CRC of the words before it. -/
theorem messageWords_trailer : (messageWords origin tag code body frame)[body.length + 1]? =
    some (trailerWord tag (crcOf ((messageWords origin tag code body frame).take (body.length + 1)))
      (frame.extractLsb' 10 8)) := by
  have front : ∀ w : LinkBits, (bodyWords body ++ [w]).take body.length = bodyWords body := fun w =>
    List.take_left' (length_bodyWords body)
  rw [messageWords_eq, List.getElem?_cons_succ, List.take_succ_cons, front,
    List.getElem?_append_right (length_bodyWords body).le, length_bodyWords, Nat.sub_self]
  rfl

end Message

namespace Machine

/-! ## The arbiter -/

/-- A message begins: its header is sent, and its next word is word 1 (R31). -/
theorem State.sendWord_first (s : State) (origin : BitVec 2) (tag : Tag) (code : Code) (body : List Payload)
    (frame : FrameNo) (sent : Nat) (isReply : Bool) :
    s.sendWord ⟨messageWords origin tag code body frame, sent, isReply⟩ 0 =
      (s.setComposer { s.composer with
          message := some ⟨messageWords origin tag code body frame, 1, isReply⟩, restart := false },
        headerWord origin tag code (BitVec.ofNat 6 body.length) (frame.extractLsb' 0 10)) := by
  rw [State.sendWord_more (by simp)]
  rfl

/-- With nothing to send the composer sends IDLE (R57). -/
theorem State.nextWord_idle {s : State} (hm : s.composer.message = none) (hr : s.replies.ready = [])
    (hn : s.notices.queue = []) : s.nextWord = (s, 0) := by
  simp only [State.nextWord, hm, hr, hn, List.isEmpty_nil, Bool.not_true, arbiterChoice]
  rfl

/-- A reply is sent where no notice waits or the kind served last was NOTICE (R57). -/
theorem arbiterChoice_reply {notice last : Bool} (h : notice = false ∨ last = false) :
    arbiterChoice true notice last = some true := by
  cases notice with
  | false => rfl
  | true => simpa [arbiterChoice] using h

/-- A notice is sent where no reply waits or the kind served last was REPLY (R57). -/
theorem arbiterChoice_notice {reply last : Bool} (h : reply = false ∨ last = true) :
    arbiterChoice reply true last = some false := by
  cases reply with
  | false => rfl
  | true => simpa [arbiterChoice] using h

/-- A chosen reply begins, and keeps its place until its trailer (R48). -/
theorem State.nextWord_reply {s : State} {r : Reply} {rest : List Reply} (hm : s.composer.message = none)
    (hr : s.replies.ready = r :: rest) (h : s.notices.queue = [] ∨ s.composer.lastReply = false) :
    s.nextWord = (s.setComposer ⟨some ⟨messageWords 1 r.tag r.status.code r.body s.now, 1, true⟩, false, true⟩,
      headerWord 1 r.tag r.status.code (BitVec.ofNat 6 r.body.length) (s.now.extractLsb' 0 10)) := by
  have choice : arbiterChoice (!s.replies.ready.isEmpty) (!s.notices.queue.isEmpty) s.composer.lastReply = some true := by
    rw [hr]
    exact arbiterChoice_reply (h.imp_left fun hq => by rw [hq]; rfl)
  simp only [State.nextWord, hm, choice]
  simp only [hr, Reply.message, State.sendWord_first]
  rfl

/-- A chosen notice begins: it leaves the queue with the sequence value, and carries Notices Lost (R53). -/
theorem State.nextWord_notice {s : State} {n : Notice} {rest : List Notice} (hm : s.composer.message = none)
    (hn : s.notices.queue = n :: rest) (h : s.replies.ready = [] ∨ s.composer.lastReply = true) :
    s.nextWord =
      ((s.setComposer
          ⟨some ⟨messageWords 2 s.notices.seq (BitVec.ofNat 6 n.val.kind) (n.body s.notices.lost) s.now, 1, false⟩,
            false, false⟩).setNotices { s.notices with queue := rest, lost := 0, seq := s.notices.seq + 1 },
        headerWord 2 s.notices.seq (BitVec.ofNat 6 n.val.kind) (BitVec.ofNat 6 (n.body s.notices.lost).length)
          (s.now.extractLsb' 0 10)) := by
  have choice : arbiterChoice (!s.replies.ready.isEmpty) (!s.notices.queue.isEmpty) s.composer.lastReply =
      some false := by
    rw [hn]
    exact arbiterChoice_notice (h.imp_left fun hq => by rw [hq]; rfl)
  simp only [State.nextWord, hm, choice]
  simp only [hn, Notice.message, State.sendWord_first]
  rfl

/-- Settles O30: the words of a message by their places, and the arbiter's choice by the kinds that wait. -/
theorem arbiterChooses : Obligations.ArbiterChooses := by
  refine ⟨fun origin tag code body frame => ⟨?_, ?_, ?_, ?_⟩, fun s hm => ⟨?_, ?_, ?_⟩⟩
  · exact length_messageWords ..
  · exact messageWords_header ..
  · exact fun _ _ => messageWords_body _ _ _ _ _
  · exact messageWords_trailer ..
  · exact State.nextWord_idle hm
  · exact fun _ _ => State.nextWord_reply hm
  · exact fun _ _ => State.nextWord_notice hm

end Machine

end Sys2Proof
end

section
/-! The Inbound Parser, word by word (R24 to R28, R30, R33), and its commands. -/

namespace Sys2Proof.Machine

/-! ## Abandonment, headers and gaps -/

/-- In HUNT there is nothing to abandon (R30). -/
theorem State.abandon_hunt {s : State} (reason : Reason) (frame : FrameNo) (h : s.parser.rx = none) :
    s.abandon reason frame = s := by
  simp only [State.abandon, h]

/-- In BODY the message is dropped, counted and told (R30). -/
theorem State.abandon_body {s : State} {m : Rx} (reason : Reason) (frame : FrameNo) (h : s.parser.rx = some m) :
    s.abandon reason frame = (s.setParser { s.parser with rx := none, abandoned := satInc s.parser.abandoned }).post
      (.inboundAbandoned frame reason (Header.tag m.header) m.words.length) := by
  simp only [State.abandon, h]

/-- A request header begins a message (R24). -/
theorem State.takeHeader_request {w : LinkBits} (s : State) (h : Header.origin w = 0) :
    s.takeHeader w = s.setParser { s.parser with rx := some ⟨w, []⟩, gap := 0 } := if_pos h

/-- Any other header is stray (R24). -/
theorem State.takeHeader_stray {w : LinkBits} (s : State) (h : Header.origin w ≠ 0) : s.takeHeader w = s.countStray :=
  if_neg h

/-- In HUNT there is no gap to count (R27). -/
theorem State.takeGap_hunt {s : State} (h : s.parser.rx = none) : s.takeGap = s := by
  simp only [State.takeGap, h]

/-- In BODY up to eight gap words are counted (R27). -/
theorem State.takeGap_counts {s : State} {m : Rx} (h : s.parser.rx = some m) (hg : s.parser.gap < 8) :
    s.takeGap = s.setParser { s.parser with gap := s.parser.gap + 1 } := by
  simp only [State.takeGap, h]
  exact if_neg (Nat.not_le.mpr hg)

/-- In BODY the ninth gap word abandons the message, and leaves the count (R27, assumption 12). -/
theorem State.takeGap_abandons {s : State} {m : Rx} (h : s.parser.rx = some m) (hg : 8 ≤ s.parser.gap) :
    s.takeGap = (s.setParser { s.parser with rx := none, abandoned := satInc s.parser.abandoned }).post
      (.inboundAbandoned s.now .gap (Header.tag m.header) m.words.length) := by
  rw [← State.abandon_body .gap s.now h]
  simp only [State.takeGap, h]
  exact if_pos hg

/-! ## A word, by its class -/

section Word

variable {s : State} {w h : LinkBits} {m : Rx}

/-- An IDLE word ends the BREAK run and is a gap word. -/
theorem State.parserWord_idle (hw : LinkWord.ofBits w = .idle) :
    s.parserWord w = (s.setParser { s.parser with breakRun := 0 }).takeGap := by
  simp only [State.parserWord, hw]

/-- A BREAK word that does not complete a run of four is a gap word (R33). -/
theorem State.parserWord_brk (hw : LinkWord.ofBits w = .brk) (hr : s.parser.breakRun < 3) :
    s.parserWord w = (s.setParser { s.parser with breakRun := s.parser.breakRun + 1 }).takeGap := by
  simp only [State.parserWord, hw, if_neg (Nat.not_le.mpr hr)]

/-- The fourth BREAK word in a row is a link resync (R33). -/
theorem State.parserWord_resync (hw : LinkWord.ofBits w = .brk) (hr : 3 ≤ s.parser.breakRun) :
    s.parserWord w = s.resync := by
  simp only [State.parserWord, hw, if_pos hr]

/-- A header ends both runs, abandons a message being received, and is taken as in HUNT (R26). -/
theorem State.parserWord_header (hw : LinkWord.ofBits w = .header h) : s.parserWord w =
    ((s.setParser { s.parser with breakRun := 0, gap := 0 }).abandon .interrupted s.now).takeHeader h := by
  simp only [State.parserWord, hw]

/-- A request header begins a message in HUNT (R24). -/
theorem State.parserWord_begins (hrx : s.parser.rx = none) (hw : LinkWord.ofBits w = .header h)
    (ho : Header.origin h = 0) :
    s.parserWord w = s.setParser { s.parser with rx := some ⟨h, []⟩, gap := 0, breakRun := 0 } := by
  rw [State.parserWord_header hw, State.abandon_hunt _ _ (by exact hrx), State.takeHeader_request _ ho]
  rfl

/-- In HUNT a header that is not a request's, a body word and a trailer are stray (R24). -/
theorem State.parserWord_stray (hrx : s.parser.rx = none)
    (hw : (∃ h, LinkWord.ofBits w = .header h ∧ Header.origin h ≠ 0) ∨ (∃ i p, LinkWord.ofBits w = .body i p) ∨
      ∃ e c, LinkWord.ofBits w = .trailer e c) :
    s.parserWord w = s.setParser { s.parser with stray := satInc s.parser.stray, gap := 0, breakRun := 0 } := by
  obtain ⟨h, hw, ho⟩ | ⟨i, p, hw⟩ | ⟨e, c, hw⟩ := hw
  · rw [State.parserWord_header hw, State.abandon_hunt _ _ (by exact hrx), State.takeHeader_stray _ ho]
    rfl
  · simp only [State.parserWord, hw, hrx]
    rfl
  · simp only [State.parserWord, hw, hrx]
    rfl

/-- In BODY a body word in sequence is stored while there is room (R25). -/
theorem State.parserWord_stores {i : BitVec 6} {p : Payload} (hrx : s.parser.rx = some m)
    (hw : LinkWord.ofBits w = .body i p) (hi : i.toNat = m.words.length) (hn : m.words.length < 48) :
    s.parserWord w =
      s.setParser { s.parser with rx := some { m with words := m.words ++ [w] }, gap := 0, breakRun := 0 } := by
  simp only [State.parserWord, hw, hrx]
  exact if_pos ⟨hi, hn⟩

/-- In BODY a body word out of sequence, or with no room for it, abandons the message (R25, R26). -/
theorem State.parserWord_sequence {i : BitVec 6} {p : Payload} (hrx : s.parser.rx = some m)
    (hw : LinkWord.ofBits w = .body i p) (hi : i.toNat ≠ m.words.length ∨ 48 ≤ m.words.length) :
    s.parserWord w = (s.setParser { s.parser with
        rx := none, gap := 0, breakRun := 0, abandoned := satInc s.parser.abandoned }).post
      (.inboundAbandoned s.now .sequence (Header.tag m.header) m.words.length) := by
  have full : ¬ (i.toNat = m.words.length ∧ m.words.length < Config.bodyWords) := by
    rw [not_and_or, Nat.not_lt]
    exact hi
  simp only [State.parserWord, hw, hrx, if_neg full]
  exact State.abandon_body (m := m) .sequence s.now rfl

/-- In BODY a header abandons the message, and is then taken as in HUNT (R26). -/
theorem State.parserWord_interrupts (hrx : s.parser.rx = some m) (hw : LinkWord.ofBits w = .header h) :
    s.parserWord w = ((s.setParser { s.parser with
        rx := none, gap := 0, breakRun := 0, abandoned := satInc s.parser.abandoned }).post
      (.inboundAbandoned s.now .interrupted (Header.tag m.header) m.words.length)).takeHeader h := by
  rw [State.parserWord_header hw, State.abandon_body _ _ (m := m) (by exact hrx)]
  rfl

/-- In BODY a trailer ends the message (R28). -/
theorem State.parserWord_trailer {echo : Tag} {crc : BitVec 16} (hrx : s.parser.rx = some m)
    (hw : LinkWord.ofBits w = .trailer echo crc) :
    s.parserWord w = (s.setParser { s.parser with gap := 0, breakRun := 0 }).takeTrailer m echo crc := by
  simp only [State.parserWord, hw, hrx]

end Word

/-- Settles O24, one kind of word at a time. -/
theorem parserTakesAWord : Obligations.ParserTakesAWord := by
  refine ⟨fun s w hrx => ⟨?_, ?_, fun hw => ?_, fun hw hr => ?_⟩,
    fun s w m hrx => ⟨fun i p hw => ⟨?_, ?_⟩, ?_, fun hw hg => ?_, fun hw hr hg => ?_⟩⟩
  · exact fun _ => State.parserWord_begins hrx
  · exact State.parserWord_stray hrx
  · exact (State.parserWord_idle hw).trans (State.takeGap_hunt hrx)
  · exact (State.parserWord_brk hw hr).trans (State.takeGap_hunt hrx)
  · exact State.parserWord_stores hrx hw
  · exact State.parserWord_sequence hrx hw
  · exact fun _ => State.parserWord_interrupts hrx
  · exact (State.parserWord_idle hw).trans (State.takeGap_counts hrx hg)
  · exact (State.parserWord_brk hw hr).trans (State.takeGap_counts hrx hg)

/-! ## The link resync -/

/-- Settles O27, by whether a fence waits whose trailer has not gone (R34). -/
theorem linkResyncClearsTheLink : Obligations.LinkResyncClearsTheLink := by
  intro s
  cases hx : s.executor with
  | idle => simp only [State.resync, hx, Executor.released]; rfl
  | fenced tag eff out => cases out <;> simp only [State.resync, hx, Executor.released] <;> rfl

/-! ## The commands for what the open frame's word may bring -/

/-- The parser's part of an event, where it comes next and `due` holds: the parser takes the frame's word, and nothing else
of the event is taken. -/
theorem State.takeDue_parser {s : State} {c : FrameCtx} {due : State → FrameCtx → Bool} (h : s.atPhase c .parser)
    (hd : due s c = true) : s.takeDue .parser due = ((s.took c .parser).parserWord c.word).closeEvent := by
  obtain ⟨hs, hp, hq⟩ := h
  exact State.takeDue_of_ready hs hp hq hd

/-- Settles O26: each command's condition holds, so the parser takes the frame's word (R27, R28, R33). -/
theorem parserEventsComplete : Obligations.ParserEventsComplete := by
  intro s c hat
  have taken : ∀ {i due u}, exec i s = .next (s.takeDue .parser due) → due s c = true →
      (s.took c .parser).parserWord c.word = u → exec i s = .next u.closeEvent := fun he hd hu => by
    rw [he, State.takeDue_parser hat hd, hu]
  refine ⟨fun m hrx hg hw => taken rfl ?_ ?_, fun m hrx hg hw hr => taken rfl ?_ ?_,
    fun m echo crc hrx hw => taken rfl ?_ ?_, fun hw hr => taken rfl ?_ ?_⟩
  · simp [gapDue, hrx, hw, Config.gapLimit, hg]
  · exact (State.parserWord_idle hw).trans (State.takeGap_abandons hrx hg)
  · simp [gapDue, hrx, hw, Config.gapLimit, hg, hr]
  · exact (State.parserWord_brk (s := s.took c .parser) hw hr).trans (State.takeGap_abandons hrx hg)
  · simp [trailerDue, hrx, hw]
  · exact State.parserWord_trailer hrx hw
  · simp [resyncDue, hw, hr]
  · exact State.parserWord_resync hw hr

end Sys2Proof.Machine
end

section
/-! A whole message: the seven trailer checks (R28, R38, R40, R46, R47) and a request from its header to its trailer
(R20, R21). -/

namespace Sys2Proof.Machine

/-! ## A message's outcome asks for a place -/

/-- With no place FREE a message is discarded and counted, whatever its outcome (R47). -/
theorem State.settle_full {s : State} (tag : Tag) (code : Code) (res : Bool) (body : List Payload)
    (verdict : Option Status) (h : s.replies.free = 0) :
    s.settle tag code res body verdict = s.setParser { s.parser with discards := satInc s.parser.discards } := if_pos h

/-- A refusal becomes READY at once, with the code as received (R46, R47). -/
theorem State.settle_refused {s : State} (tag : Tag) (code : Code) (res : Bool) (body : List Payload) (st : Status)
    (h : s.replies.free ≠ 0) : s.settle tag code res body (some st) =
      s.setReplies { s.replies with ready := s.replies.ready ++ [⟨tag, st, [0#18 ++ code], true⟩] } := if_neg h

/-- Behind a fence the Executor takes nothing (R41, R44). -/
theorem State.drain_fenced {s : State} (n : Nat) (h : s.executor ≠ .idle) : s.drain n = s := by
  cases n with
  | zero => rfl
  | succ n =>
    cases hx : s.executor with
    | idle => exact absurd hx h
    | fenced => simp only [State.drain, hx]

/-- A request accepted behind a fence waits, its place RESERVED (R40, R41, R47). -/
theorem State.settle_waits {s : State} (tag : Tag) (code : Code) (res : Bool) (body : List Payload)
    (h : s.replies.free ≠ 0) (hx : s.executor ≠ .idle) :
    s.settle tag code res body none = (s.reserved tag code).setCmdq (s.cmdq ++ [⟨tag, code, res, body⟩]) :=
  (if_neg h).trans (State.drain_fenced (s := (s.reserved tag code).setCmdq _) _ hx)

/-- The four late checks, in their order (R28). -/
theorem State.lateCheck_cases (s : State) (tag : Tag) (code : Code) :
    (tag = 0 → s.lateCheck tag code = some .badField) ∧
    (tag ≠ 0 → ¬ (1 ≤ code.toNat ∧ code.toNat ≤ 32) → s.lateCheck tag code = some .unknownCode) ∧
    (tag ≠ 0 → 1 ≤ code.toNat ∧ code.toNat ≤ 32 →
      (s.replies.live tag = true → s.lateCheck tag code = some .duplicateTag) ∧
      (s.replies.live tag = false → 4 ≤ s.cmdq.length → s.lateCheck tag code = some .busy) ∧
      (s.replies.live tag = false → s.cmdq.length < 4 → s.lateCheck tag code = none)) := by
  have range : (!(decide (1 ≤ code.toNat) && decide (code.toNat ≤ 32))) = true ↔
      ¬ (1 ≤ code.toNat ∧ code.toNat ≤ 32) := by
    rw [← Bool.decide_and, Bool.not_eq_true', decide_eq_false_iff_not]
  unfold State.lateCheck
  refine ⟨fun h0 => if_pos h0, fun h0 hc => ?_, fun h0 hc => ?_⟩
  · rw [if_neg h0, if_pos (range.mpr hc)]
  rw [if_neg h0, if_neg (mt range.mp (not_not.mpr hc))]
  refine ⟨fun hl => if_pos hl, fun hl hq => ?_, fun hl hq => ?_⟩
  · rw [hl]
    exact if_pos hq
  · rw [hl]
    exact if_neg (Nat.not_le.mpr hq)

/-! ## The trailer -/

section Trailer

variable {s : State} {m : Rx} {echo : Tag} {crc : BitVec 16}

/-- A trailer with another tag (R28, check 1). -/
theorem State.takeTrailer_badTrailer (he : echo ≠ Header.tag m.header) : s.takeTrailer m echo crc =
    (s.setParser { s.parser with rx := none }).settle (Header.tag m.header) (Header.code m.header)
      (Header.reservedSet m.header) (m.words.map payloadOf) (some .badTrailer) := if_pos he

/-- A body of another length (R28, check 2). -/
theorem State.takeTrailer_badLength (he : echo = Header.tag m.header)
    (hl : m.words.length ≠ (Header.length m.header).toNat) : s.takeTrailer m echo crc =
    (s.setParser { s.parser with rx := none }).settle (Header.tag m.header) (Header.code m.header)
      (Header.reservedSet m.header) (m.words.map payloadOf) (some .badLength) :=
  (if_neg (not_not.mpr he)).trans (if_pos hl)

/-- Another CRC, which is counted (R28, check 3; assumption 11). -/
theorem State.takeTrailer_badCrc (he : echo = Header.tag m.header)
    (hl : m.words.length = (Header.length m.header).toNat) (hc : crcOf (m.header :: m.words) ≠ crc) :
    s.takeTrailer m echo crc =
      (s.setParser { s.parser with rx := none, crcErrors := satInc s.parser.crcErrors }).settle (Header.tag m.header)
        (Header.code m.header) (Header.reservedSet m.header) (m.words.map payloadOf) (some .badCrc) :=
  (if_neg (not_not.mpr he)).trans ((if_neg (not_not.mpr hl)).trans (if_pos hc))

/-- A trailer that agrees with its message leaves a request to the late checks (R28). -/
theorem State.takeTrailer_agrees (he : echo = Header.tag m.header)
    (hl : m.words.length = (Header.length m.header).toNat) (hc : crcOf (m.header :: m.words) = crc) :
    s.takeTrailer m echo crc =
      (s.setParser { s.parser with rx := none }).request (Header.tag m.header) (Header.code m.header)
        (Header.reservedSet m.header) (m.words.map payloadOf) :=
  (if_neg (not_not.mpr he)).trans ((if_neg (not_not.mpr hl)).trans (if_neg (not_not.mpr hc)))

end Trailer

/-- A tag is live while a RESERVED place or a READY one that is no refusal stands for it (R38). -/
theorem ReplyQueue.live_iff (q : ReplyQueue) (tag : Tag) : q.live tag = true ↔
    (∃ p ∈ q.reserved, p.tag = tag) ∨ ∃ p ∈ q.ready, p.refusal = false ∧ p.tag = tag := by
  simp [ReplyQueue.live]

/-- Settles O25: the checks of the trailer itself, the places and live tags, and the late checks. -/
theorem trailerChecksInOrder : Obligations.TrailerChecksInOrder := by
  refine ⟨fun s m echo crc => ⟨?_, ?_, ?_, ?_⟩, fun q tag => ⟨rfl, q.live_iff tag⟩,
    fun s tag code res body st => ⟨rfl, fun hf o => ?_, ?_⟩, fun s code r => ⟨fun hf => ?_, fun hf => ?_⟩⟩
  · exact State.takeTrailer_badTrailer
  · exact State.takeTrailer_badLength
  · exact State.takeTrailer_badCrc
  · exact State.takeTrailer_agrees
  · exact State.settle_full _ _ _ _ o hf
  · exact State.settle_refused _ _ _ _ st
  · exact State.settle_full _ _ _ _ _ hf
  · obtain ⟨zero, unknown, known⟩ := s.lateCheck_cases r.tag code
    have refused : ∀ {st}, s.lateCheck r.tag code = some st → s.deliver code r = s.setReplies
        { s.replies with ready := s.replies.ready ++ [⟨r.tag, st, [0#18 ++ code], true⟩] } := fun hv => by
      rw [State.deliver, State.request, hv]
      exact State.settle_refused _ _ _ _ _ hf
    refine ⟨fun h0 => refused (zero h0), fun h0 hc => refused (unknown h0 hc),
      fun h0 hc hl => refused ((known h0 hc).1 hl), fun h0 hc hl hq => refused ((known h0 hc).2.1 hl hq),
      fun h0 hc hl hq hx => ?_⟩
    rw [State.deliver, State.request, (known h0 hc).2.2 hl hq]
    exact State.settle_waits _ _ _ _ hf hx

/-! ## A whole message -/

/-- A message's last body word follows the others. -/
theorem bodyWords_concat (body : List Payload) (p : Payload) :
    bodyWords (body ++ [p]) = bodyWords body ++ [bodyWord (BitVec.ofNat 6 body.length) p] := by
  simp [bodyWords, List.mapIdx_append]

@[simp] theorem payloadOf_bodyWord (i : BitVec 6) (p : Payload) : payloadOf (bodyWord i p) = p := by
  simp [-Nat.reduceAdd, payloadOf, extract_bodyWord, BitVec.extractLsb'_append_eq_of_add_le]

/-- The payloads of a message's body words are its body (R20). -/
theorem map_payloadOf_bodyWords (body : List Payload) : (bodyWords body).map payloadOf = body := by
  induction body using List.reverseRecOn with
  | nil => rfl
  | append_singleton body p ih => simp [bodyWords_concat, ih]

/-- The body words of a message of at most 48 words are stored one after another (R25). -/
theorem State.parserWord_bodyWords (s : State) (h : LinkBits) (body : List Payload) (hb : body.length ≤ 48) :
    (bodyWords body).foldl State.parserWord
        (s.setParser { s.parser with rx := some ⟨h, []⟩, gap := 0, breakRun := 0 }) =
      s.setParser { s.parser with rx := some ⟨h, bodyWords body⟩, gap := 0, breakRun := 0 } := by
  induction body using List.reverseRecOn with
  | nil => rfl
  | append_singleton body p ih =>
    have room : body.length < 48 := by simpa using hb
    have index : (BitVec.ofNat 6 body.length).toNat = (bodyWords body).length := by
      rw [length_bodyWords, BitVec.toNat_ofNat]
      omega
    rw [bodyWords_concat, List.foldl_append, ih room.le]
    exact State.parserWord_stores (m := ⟨h, bodyWords body⟩) rfl (LinkWord.ofBits_bodyWord _ _) index
      (by rwa [length_bodyWords])

/-- A request message is laid out as the part lays out its own, with origin 0 and stamp 0 (R181). -/
theorem requestWords_eq (tag : Tag) (code : Code) (body : List Payload) :
    requestWords tag code body = messageWords 0 tag code body 0 := rfl

/-- Settles O23: the header begins the message, its body words are stored, and its trailer agrees with it. -/
theorem messageReachesTheTrailerChecks : Obligations.MessageReachesTheTrailerChecks := by
  refine ⟨requestWords_eq, fun s tag code body hrx hb => ?_⟩
  have length : (BitVec.ofNat 6 body.length).toNat = body.length := by
    rw [BitVec.toNat_ofNat]
    omega
  rw [requestWords_eq, messageWords_eq, List.foldl_cons, State.parserWord_begins hrx (LinkWord.ofBits_headerWord ..)
    (Header.origin_headerWord ..), List.foldl_append, State.parserWord_bodyWords _ _ _ hb, List.foldl_cons,
    List.foldl_nil, State.parserWord_trailer rfl (LinkWord.ofBits_trailerWord ..),
    State.takeTrailer_agrees (by simp) (by simp [length]) rfl]
  simp [map_payloadOf_bodyWords, State.setParser]

end Sys2Proof.Machine
end

section
/-! One expiry's movement of a position (R82, R83, R84), and the movers of a group counted position by
position (R86). -/

namespace Sys2Proof.Machine

/-! ## Movers, position by position -/

/-- A count over four times as many numbers, four at a time. -/
theorem countP_range_four (p : Nat → Bool) (m : Nat) : (List.range (4 * m)).countP p =
    ((List.range m).map fun i => (List.range 4).countP fun k => p (4 * i + k)).sum := by
  induction m with
  | zero => rfl
  | succ m ih =>
    rw [Nat.mul_succ, List.range_add, List.countP_append, ih, List.range_succ (n := m), List.map_append,
      List.sum_append, List.countP_map]
    simp [Function.comp_def]

/-- The movers of an entry, by the number of their position (R82). -/
theorem Active.movers_eq (e : Active) : e.movers =
    (List.range 4).countP fun k => (e.pos.row (BitVec.ofNat 2 k)).moving := by
  rw [Active.movers, Table.toList_eq, Table.numbers, List.map_map, List.countP_map]
  rfl

/-- The moving count of a group over all 256 positions, entry by entry (R86). -/
theorem movers_eq_countP (g : GroupNo) (t : Table 6 Active) : movers g t = (List.range 256).countP fun n =>
    (t.row (BitVec.ofNat 6 (n / 4))).group == g &&
      ((t.row (BitVec.ofNat 6 (n / 4))).pos.row (BitVec.ofNat 2 (n % 4))).moving := by
  rw [countP_range_four _ 64, movers, Table.toList_eq, Table.numbers, List.map_map, List.map_map]
  congr 1
  refine List.map_congr_left fun i _ => ?_
  have entry : ∀ k ∈ List.range 4, (4 * i + k) / 4 = i ∧ (4 * i + k) % 4 = k := fun k hk => by
    have := List.mem_range.mp hk
    omega
  simp only [Function.comp_apply, Active.movers_eq]
  split
  · rename_i hg
    refine List.countP_congr fun k hk => ?_
    rw [(entry k hk).1, (entry k hk).2, hg, beq_self_eq_true, Bool.true_and]
  · rename_i hg
    refine (List.countP_eq_zero.mpr fun k hk => ?_).symm
    rw [(entry k hk).1]
    simp [hg]

/-- A group has no movers where no position of its entries moves (R86). -/
theorem movers_eq_zero_iff {g : GroupNo} {t : Table 6 Active} : movers g t = 0 ↔
    ∀ (i : Slot) (k : BitVec 2), (t.row i).group = g → ((t.row i).pos.row k).moving = false := by
  simp only [movers, List.sum_eq_zero_iff, List.forall_mem_map, Table.mem_toList, forall_exists_index,
    forall_apply_eq_imp_iff, ite_eq_right_iff, Active.movers, List.countP_eq_zero, Bool.not_eq_true]
  exact ⟨fun h i k hg => h i hg k, fun h i hg k => h i k hg⟩

/-! ## One step of a gain -/

/-- A step is the nearer of the goal and the gain moved by the step (R83). -/
theorem toNat_stepToward (step : Nat) (cur goal : Gain) : (stepToward step cur goal).toNat =
    if cur.toNat < goal.toNat then min (cur.toNat + step) goal.toNat else max (cur.toNat - step) goal.toNat := by
  have := cur.isLt
  have := goal.isLt
  unfold stepToward
  split <;> rw [BitVec.toNat_ofNat, Nat.mod_eq_of_lt (by omega)]

/-- A step of a drain only falls (R83). -/
theorem toNat_stepToward_zero (step : Nat) (cur : Gain) : (stepToward step cur 0).toNat = cur.toNat - step := by
  simp [toNat_stepToward]

/-- A drain arrives at 0 where the step is no less than its gain (R84). -/
theorem stepToward_zero_eq_zero_iff {step : Nat} {cur : Gain} : stepToward step cur 0 = 0 ↔ cur.toNat ≤ step := by
  rw [← BitVec.toNat_inj, toNat_stepToward_zero]
  exact Nat.sub_eq_zero_iff_le

/-- What enters a group with a nonzero interval at gain 0 (R62, R84). -/
theorem drainEnd_eq (muted : Bool) (pend : Option Contrib) : drainEnd muted false pend =
    match pend with
    | none => .empty
    | some q => if muted ∨ q.target = 0 then .steady q 0 else .ramping q 0 := by
  cases pend with
  | none => rfl
  | some q =>
    have arrives : (0 : Gain) = effective muted q ↔ muted = true ∨ q.target = 0 := by
      cases muted
      · simp only [effective, Bool.false_eq_true, false_or, if_false]
        exact eq_comm
      · simp [effective]
    simp only [drainEnd, follow, arrives, Bool.false_eq_true, if_false]

/-! ## The frame step short of an expiry -/

/-- A group without movers is left alone (R87). -/
theorem State.groupStep_still {s : State} {g : GroupNo} (h : (s.groups.row g).moving = 0) : s.groupStep g = s := by
  simp [State.groupStep, h]

/-- Short of an expiry the countdown falls by one (R87). -/
theorem State.groupStep_counts {s : State} {g : GroupNo} (hm : 0 < (s.groups.row g).moving)
    (hc : 2 ≤ (s.groups.row g).countdown) : s.groupStep g = s.setGroups (s.groups.put g
      { s.groups.row g with countdown := (s.groups.row g).countdown - 1 }) := by
  have later : (s.groups.row g).expiring = false := by simp [Group.expiring]; omega
  simp [State.groupStep, later, hm.ne', State.putGroup]

/-- At an expiry the movers of the group take their step (R83, R87). -/
theorem State.groupStep_expires {s : State} {g : GroupNo} (h : (s.groups.row g).expiring = true) :
    s.groupStep g = s.expiry g := by
  have moves : (s.groups.row g).moving ≠ 0 := by
    simp only [Group.expiring, Bool.and_eq_true, decide_eq_true_eq] at h
    exact h.1.ne'
  simp [State.groupStep, h, moves]

/-- Settles O35: the states that move, the count of the movers, one step of a position, and the frame step. -/
theorem expiryMovesOnePosition : Obligations.ExpiryMovesOnePosition := by
  refine ⟨fun _ _ _ => ⟨rfl, rfl, rfl, rfl⟩, movers_eq_countP, fun step muted c p cur => ?_,
    fun s g => ⟨State.groupStep_still, State.groupStep_counts⟩⟩
  refine ⟨⟨_, toNat_stepToward step cur (effective muted c), rfl⟩, fun pend h => ?_, fun pend h => ?_, rfl, rfl⟩
  · exact (if_pos (stepToward_zero_eq_zero_iff.mpr h)).trans (drainEnd_eq muted pend)
  · exact ⟨_, toNat_stepToward_zero step cur, if_neg fun h0 => absurd (stepToward_zero_eq_zero_iff.mp h0) (by omega)⟩

end Sys2Proof.Machine
end

section
/-! GROUP_EXPIRY (R83, R86, R87, R96, R102). -/

namespace Sys2Proof.Machine

/-! ## The entries of a group -/

section
variable {g : GroupNo} {f : Position → Position} {t : Table 6 Active} {i : Slot}

/-- An entry of another group stays as it is. -/
theorem mapGroup_row_other (h : (t.row i).group ≠ g) : (mapGroup g f t).row i = t.row i := by
  rw [mapGroup, Table.row_tab, if_neg h]

/-- Each position of an entry of the group is replaced. -/
theorem mapGroup_pos (h : (t.row i).group = g) (k : BitVec 2) :
    ((mapGroup g f t).row i).pos.row k = f ((t.row i).pos.row k) := by
  rw [mapGroup, Table.row_tab, if_pos h, Active.mapPos, Table.row_tab]

/-- Nothing of an entry but its positions is replaced. -/
theorem mapGroup_row (g : GroupNo) (f : Position → Position) (t : Table 6 Active) (i : Slot) :
    (mapGroup g f t).row i = { t.row i with pos := ((mapGroup g f t).row i).pos } := by
  rw [mapGroup, Table.row_tab]
  split <;> rfl

/-- Every entry keeps its drive. -/
@[simp] theorem mapGroup_drive (g : GroupNo) (f : Position → Position) (t : Table 6 Active) (i : Slot) :
    ((mapGroup g f t).row i).drive = (t.row i).drive := by rw [mapGroup_row]

/-- Every entry keeps its hold policy. -/
@[simp] theorem mapGroup_hold (g : GroupNo) (f : Position → Position) (t : Table 6 Active) (i : Slot) :
    ((mapGroup g f t).row i).hold = (t.row i).hold := by rw [mapGroup_row]

/-- Every entry keeps its group. -/
@[simp] theorem mapGroup_group (g : GroupNo) (f : Position → Position) (t : Table 6 Active) (i : Slot) :
    ((mapGroup g f t).row i).group = (t.row i).group := by rw [mapGroup_row]

end

/-- A group has movers where some position of its entries moves (R86). -/
theorem movers_ne_zero_iff {g : GroupNo} {t : Table 6 Active} : movers g t ≠ 0 ↔
    ∃ (i : Slot) (k : BitVec 2), (t.row i).group = g ∧ ((t.row i).pos.row k).moving = true := by
  simp [movers_eq_zero_iff]

/-- A mover of the group stands still in an entry still in the group (R96). -/
theorem stoppedIn_iff {g : GroupNo} {old new : Table 6 Active} : stoppedIn g old new = true ↔
    ∃ (i : Slot) (k : BitVec 2), (old.row i).group = g ∧ (new.row i).group = g ∧
      ((old.row i).pos.row k).moving = true ∧ ((new.row i).pos.row k).moving = false := by
  simp only [stoppedIn, List.any_eq_true, Table.mem_numbers, true_and, Bool.and_eq_true, beq_iff_eq,
    Bool.not_eq_true']
  exact ⟨fun ⟨i, ⟨ho, hn⟩, k, hk⟩ => ⟨i, k, ho, hn, hk⟩, fun ⟨i, k, ho, hn, hk⟩ => ⟨i, ⟨ho, hn⟩, k, hk⟩⟩

/-- Where the entries keep their groups, the last movers of a group have stopped in it (R96). -/
theorem stoppedIn_of_last {g : GroupNo} {old new : Table 6 Active}
    (hg : ∀ i, (new.row i).group = (old.row i).group) (h : movers g old ≠ 0) (h0 : movers g new = 0) :
    stoppedIn g old new = true := by
  obtain ⟨i, k, hi, hk⟩ := movers_ne_zero_iff.mp h
  have hn := (hg i).trans hi
  exact stoppedIn_iff.mpr ⟨i, k, hi, hn, hk, movers_eq_zero_iff.mp h0 i k hn⟩

/-! ## The expiry -/

/-- What was last written to the open event stands. -/
theorem State.setFrame_setFrame (s : State) (f f' : Option FrameCtx) : (s.setFrame f).setFrame f' = s.setFrame f' := rfl

section
variable {s : State} {g : GroupNo} {a : Table 6 Active}
  (ha : mapGroup g (Position.expire (s.groups.row g).step (s.groups.row g).muted (s.groups.row g).jump) s.active = a)
include ha

/-- An expiry moves the positions of the group, brings its record up to date, and posts RAMP_DONE at the last stop (R83,
R87, R96). -/
theorem State.expiry_eq : s.expiry g = { s with
    active := a
    groups := s.groups.put g { s.groups.row g with
      moving := movers g a
      countdown := if movers g a = 0 then 0 else (s.groups.row g).interval }
    notices := if movers g a = 0 ∧ stoppedIn g s.active a = true then s.notices.post (.rampDone g s.now)
      else s.notices } := by
  simp only [State.expiry, ha, Bool.and_eq_true, decide_eq_true_eq]
  by_cases h : movers g a = 0 ∧ stoppedIn g s.active a = true
  · simp only [if_pos h]
    rfl
  · simp only [if_neg h]
    rfl

/-- GROUP_EXPIRY at its part of the open event (R83, R87). -/
theorem exec_groupExpiry {c : FrameCtx} (h : s.atPhase c (.group g)) (hd : (s.groups.row g).expiring = true) :
    exec (.groupExpiry g) s = .next ((s.expiry g).setFrame (c.without (.group g))) := by
  obtain ⟨hs, hp, hq⟩ := h
  have run : (s.took c (.group g)).runPhase (.group g) = (s.took c (.group g)).expiry g := by
    simp only [State.runPhase, State.took, State.setFrame_frame]
    exact State.groupStep_expires hd
  have moved : (s.took c (.group g)).expiry g =
      (s.expiry g).setFrame (some { c with todo := c.todo.erase (.group g) }) := by
    rw [State.expiry_eq ha, State.expiry_eq (s := s.took c (.group g)) ha]
    rfl
  have taken := State.takeDue_of_ready (due := fun t _ => (t.groups.row g).expiring) hs hp hq hd
  rw [← State.took, run, moved, State.closeEvent_eq (State.setFrame_frame _ _), State.setFrame_setFrame] at taken
  exact congrArg Host.Outcome.next taken

end

/-- Settles O36: the state after the expiry, read field by field. -/
theorem groupExpiryCompletes : Obligations.GroupExpiryCompletes := by
  intro s c g hat hm hc
  have due : (s.groups.row g).expiring = true := by simp [Group.expiring, hm, hc]
  obtain ⟨a, ha⟩ : ∃ a, mapGroup g (Position.expire (s.groups.row g).step (s.groups.row g).muted
    (s.groups.row g).jump) s.active = a := ⟨_, rfl⟩
  refine ⟨_, exec_groupExpiry ha hat due, ?_⟩
  rw [State.expiry_eq ha]
  have drive : ∀ i, (a.row i).drive = (s.active.row i).drive := by simp [← ha]
  have hold : ∀ i, (a.row i).hold = (s.active.row i).hold := by simp [← ha]
  have group : ∀ i, (a.row i).group = (s.active.row i).group := by simp [← ha]
  refine ⟨fun i hi => ?_, fun i hi => ⟨drive i, hold i, (group i).trans hi, fun k => ?_⟩, ?_, fun h hh => ?_,
    fun law last => ?_, fun left => ?_, rfl, rfl⟩
  · subst ha
    exact mapGroup_row_other hi
  · subst ha
    exact mapGroup_pos hi k
  · exact (Table.row_put _ _ _ _).trans (if_pos rfl)
  · exact (Table.row_put _ _ _ _).trans (if_neg hh)
  · have count : movers g s.active ≠ 0 := by
      obtain ⟨-, -, counted, -⟩ := law.1 g
      omega
    exact if_pos ⟨last, stoppedIn_of_last group count last⟩
  · exact if_neg fun hs => left.ne' hs.1

end Sys2Proof.Machine
end

section
/-! The bodies of the requests, read at the bit places of the table (R183, R185). -/

namespace Sys2Proof.Machine

open BitVec (extractLsb'_append_eq_of_le extractLsb'_append_eq_of_add_le)

/-! ## Reserved bits -/

/-- Every bit outside the mask is 0. -/
def Covered {n : Nat} (w mask : BitVec n) : Prop := w &&& ~~~mask = 0#n

/-- The mask of a field that a layout names. -/
def fieldMask (n : Nat) : BitVec n := BitVec.allOnes n

/-- A word is covered part by part. -/
theorem Covered.append {n m : Nat} {a p : BitVec n} {b q : BitVec m} (ha : Covered a p) (hb : Covered b q) :
    Covered (a ++ b) (p ++ q) := by
  unfold Covered at ha hb ⊢
  rw [BitVec.not_append, BitVec.and_append, ha, hb, BitVec.zero_append_zero]

/-- A named field may hold anything. -/
theorem Covered.field {n : Nat} (a : BitVec n) : Covered a (fieldMask n) := by simp [Covered, fieldMask]

/-- A field of 0 is covered by any mask. -/
theorem Covered.zero_left {n : Nat} (p : BitVec n) : Covered 0#n p := by simp [Covered]

/-- A reserved field holds 0. -/
theorem Covered.zero {n : Nat} : Covered 0#n 0#n := .zero_left _

/-- The reserved bits of a word laid out as the mask has it are 0 (R184). -/
theorem within_of_covered {w layout mask : Payload} (h : Covered w layout) (hm : layout = mask) :
    within w mask = true := by
  subst hm
  exact beq_iff_eq.mpr h

/-! ## The request commands -/

/-- A request command with a body of its own is the request of its code. -/
theorem exec_request (s : State) (r : Req) : ∀ row ∈
    ([(.identify, 1), (.readStatus, 2), (.setNoticeMask, 4), (.moveLink, 5), (.setFrameFormat, 6), (.setLanes, 7),
      (.stageRoute, 8), (.stageClear, 9), (.stageFromActive, 10), (.readRoute, 11), (.commit, 12), (.cancelCommit, 13),
      (.setGain, 14), (.setGroup, 15), (.groupMute, 16), (.readGroups, 17), (.readClips, 18), (.defineRegion, 19),
      (.releaseRegion, 20), (.writeRegion, 21), (.readRegion, 22), (.readRegions, 23), (.startCapture, 24),
      (.stopCapture, 25), (.readCapture, 26), (.startPlayer, 27), (.stopPlayer, 28), (.readPlayers, 29),
      (.setWatch, 30), (.clearWatch, 31), (.readWatches, 32)] : List ((Req → Instr) × Code)),
    exec (row.1 r) s = .next (s.deliver row.2 r) := by
  simp only [List.forall_mem_cons, List.not_mem_nil, false_implies, implies_true, and_true]
  and_intros <;> rfl

/-! ## Bodies of one word -/

/-- READ STATUS and READ CLIPS. -/
theorem readClear_word (clear : Bool) : readClear [0#23 ++ BitVec.ofBool clear] = some clear := by
  have reserved : within (0#23 ++ BitVec.ofBool clear) 0x000001#24 = true :=
    within_of_covered (Covered.zero.append (.field _)) rfl
  simp [-Nat.reduceAdd, -BitVec.getLsbD_eq_getElem, readClear, reserved, BitVec.getLsbD_append]

/-- SET NOTICE MASK. -/
theorem readMask_word (mask : BitVec 8) : readMask [0#16 ++ mask] = some mask := by
  have reserved : within (0#16 ++ mask) 0x0000FF#24 = true := within_of_covered (Covered.zero.append (.field _)) rfl
  simp [-Nat.reduceAdd, readMask, reserved, fld, extractLsb'_append_eq_of_add_le]

/-- MOVE LINK. -/
theorem readMoveLink_word (inb outb : Slot) : readMoveLink [0#10 ++ inb ++ 0#2 ++ outb] = some (inb, outb) := by
  have reserved : within (0#10 ++ inb ++ 0#2 ++ outb) 0x003F3F#24 = true :=
    within_of_covered (((Covered.zero.append (.field _)).append .zero).append (.field _)) rfl
  simp [-Nat.reduceAdd, readMoveLink, reserved, fld, extractLsb'_append_eq_of_le, extractLsb'_append_eq_of_add_le]

/-- SET FRAME FORMAT. -/
theorem readFormat_word (sense delay : Bool) {n : BitVec 5} (hn : n = 8 ∨ n = 16) :
    readFormat [0#14 ++ BitVec.ofBool sense ++ BitVec.ofBool delay ++ 0#3 ++ n] =
      some ⟨n == 16, delay, if sense then .activeLow else .activeHigh⟩ := by
  have reserved : within (0#14 ++ BitVec.ofBool sense ++ BitVec.ofBool delay ++ 0#3 ++ n) 0x00031F#24 = true :=
    within_of_covered ((((Covered.zero.append (.field _)).append (.field _)).append .zero).append (.field n)) rfl
  simp [-Nat.reduceAdd, -BitVec.getLsbD_eq_getElem, readFormat, reserved, fld, BitVec.getLsbD_append,
    extractLsb'_append_eq_of_add_le]
  exact hn.resolve_left

/-- SET LANES. -/
theorem readLanes_word (ins outs : BitVec 4) : readLanes [0#16 ++ ins ++ outs] = some (ins, outs) := by
  have reserved : within (0#16 ++ ins ++ outs) 0x0000FF#24 = true :=
    within_of_covered ((Covered.zero.append (.field _)).append (.field _)) rfl
  simp [-Nat.reduceAdd, readLanes, reserved, fld, extractLsb'_append_eq_of_le, extractLsb'_append_eq_of_add_le]

/-- A record word of STAGE ROUTE. -/
theorem readContrib_word (source : Source) (target : Gain) (inverted : Bool) :
    readContrib (source ++ target ++ BitVec.ofBool inverted ++ 0#8) = if source.toNat ≤ 65 then
      some ⟨source, target, if inverted then .inverted else .normal⟩ else none := by
  have reserved : within (source ++ target ++ BitVec.ofBool inverted ++ 0#8) 0xFFFF00#24 = true :=
    within_of_covered ((((Covered.field _).append (.field _)).append (.field _)).append .zero) rfl
  simp [-Nat.reduceAdd, -BitVec.getLsbD_eq_getElem, readContrib, reserved, fld, BitVec.getLsbD_append,
    extractLsb'_append_eq_of_le, extractLsb'_append_eq_of_add_le]

/-- STAGE CLEAR of one slot. -/
theorem readStageClear_word (slot : Slot) : readStageClear [slot ++ 0#18] = some (some slot) := by
  have reserved : within (slot ++ 0#18) 0xFC0001#24 = true :=
    within_of_covered ((Covered.field _).append (.zero_left 1#18)) rfl
  simp [-Nat.reduceAdd, -BitVec.getLsbD_eq_getElem, readStageClear, reserved, fld, BitVec.getLsbD_append,
    extractLsb'_append_eq_of_le]

/-- READ ROUTE. -/
theorem readReadRoute_word (slot : Slot) (bank : Bool) :
    readReadRoute [slot ++ 0#14 ++ BitVec.ofBool bank ++ 0#3] = some (slot, bank) := by
  have reserved : within (slot ++ 0#14 ++ BitVec.ofBool bank ++ 0#3) 0xFC0008#24 = true :=
    within_of_covered ((((Covered.field _).append .zero).append (.field _)).append .zero) rfl
  simp [-Nat.reduceAdd, -BitVec.getLsbD_eq_getElem, readReadRoute, reserved, fld, BitVec.getLsbD_append,
    extractLsb'_append_eq_of_le]

/-- COMMIT, its limit refused with RAMPS_IDLE where it is 0. -/
theorem readCommit_word (ramps : Bool) (limit : BitVec 16) : readCommit [0#7 ++ BitVec.ofBool ramps ++ limit] =
    if ramps then (if limit = 0 then none else some (.rampsIdle, limit)) else some (.none, limit) := by
  have reserved : within (0#7 ++ BitVec.ofBool ramps ++ limit) 0x01FFFF#24 = true :=
    within_of_covered ((Covered.zero.append (.field _)).append (.field _)) rfl
  simp [-Nat.reduceAdd, -BitVec.getLsbD_eq_getElem, readCommit, reserved, fld, BitVec.getLsbD_append,
    extractLsb'_append_eq_of_add_le]

/-- SET GAIN. -/
theorem readSetGain_word (slot : Slot) (k : BitVec 2) (code : Gain) :
    readSetGain [slot ++ k ++ code ++ 0#8] = some (slot, k, code) := by
  have reserved : within (slot ++ k ++ code ++ 0#8) 0xFFFF00#24 = true :=
    within_of_covered ((((Covered.field _).append (.field _)).append (.field _)).append .zero) rfl
  simp [-Nat.reduceAdd, readSetGain, reserved, fld, extractLsb'_append_eq_of_le, extractLsb'_append_eq_of_add_le]

/-- SET GROUP, its step and interval checked. -/
theorem readSetGroup_word (g : GroupNo) (step : BitVec 4) (interval : BitVec 7) :
    readSetGroup [g ++ step ++ interval ++ 0#10] =
      if (step = 1 ∨ step = 2 ∨ step = 4 ∨ step = 8) ∧ interval.toNat ≤ 64 then
        some (g, step.toNat, interval.toNat) else none := by
  have reserved : within (g ++ step ++ interval ++ 0#10) 0xFFFC00#24 = true :=
    within_of_covered ((((Covered.field _).append (.field _)).append (.field _)).append .zero) rfl
  simp [-Nat.reduceAdd, readSetGroup, reserved, fld, extractLsb'_append_eq_of_le, extractLsb'_append_eq_of_add_le,
    ← BitVec.toNat_inj, or_assoc]

/-- GROUP MUTE. -/
theorem readGroupMute_word (g : GroupNo) (muted : Bool) :
    readGroupMute [g ++ 0#11 ++ BitVec.ofBool muted ++ 0#9] = some (g, muted) := by
  have reserved : within (g ++ 0#11 ++ BitVec.ofBool muted ++ 0#9) 0xE00200#24 = true :=
    within_of_covered ((((Covered.field _).append .zero).append (.field _)).append .zero) rfl
  simp [-Nat.reduceAdd, -BitVec.getLsbD_eq_getElem, readGroupMute, reserved, fld, BitVec.getLsbD_append,
    extractLsb'_append_eq_of_le]

/-- RELEASE REGION. -/
theorem readRegionId_word (id : RegionNo) : readRegionId [id ++ 0#21] = some id := by
  have reserved : within (id ++ 0#21) 0xE00000#24 = true := within_of_covered ((Covered.field _).append .zero) rfl
  simp [-Nat.reduceAdd, readRegionId, reserved, fld, extractLsb'_append_eq_of_le]

/-- READ REGION, its count checked. -/
theorem readReadRegion_word (id : RegionNo) (offset : BitVec 13) (count : BitVec 6) :
    readReadRegion [id ++ offset ++ 0#2 ++ count] =
      if 1 ≤ count.toNat ∧ count.toNat ≤ 47 then some (id, offset.toNat, count.toNat) else none := by
  have reserved : within (id ++ offset ++ 0#2 ++ count) 0xFFFF3F#24 = true :=
    within_of_covered ((((Covered.field _).append (.field _)).append .zero).append (.field _)) rfl
  simp [-Nat.reduceAdd, readReadRegion, reserved, fld, extractLsb'_append_eq_of_le, extractLsb'_append_eq_of_add_le]

/-- START PLAYER. -/
theorem readStartPlayer_word (p : PlayerNo) (id : RegionNo) (loops : BitVec 8) :
    readStartPlayer [p ++ 0#2 ++ id ++ 0#10 ++ loops] = some (p, id, loops) := by
  have reserved : within (p ++ 0#2 ++ id ++ 0#10 ++ loops) 0x9C00FF#24 = true :=
    within_of_covered (((((Covered.field _).append .zero).append (.field _)).append .zero).append (.field _)) rfl
  simp [-Nat.reduceAdd, readStartPlayer, reserved, fld, extractLsb'_append_eq_of_le, extractLsb'_append_eq_of_add_le]

/-- STOP PLAYER. -/
theorem readPlayerNo_word (p : PlayerNo) : readPlayerNo [p ++ 0#23] = some p := by
  have reserved : within (p ++ 0#23) 0x800000#24 = true := within_of_covered ((Covered.field _).append .zero) rfl
  simp [-Nat.reduceAdd, readPlayerNo, reserved, fld, extractLsb'_append_eq_of_le]

/-- CLEAR WATCH. -/
theorem readWatchNo_word (w : WatchNo) : readWatchNo [w ++ 0#20] = some w := by
  have reserved : within (w ++ 0#20) 0xF00000#24 = true := within_of_covered ((Covered.field _).append .zero) rfl
  simp [-Nat.reduceAdd, readWatchNo, reserved, fld, extractLsb'_append_eq_of_le]

/-! ## Longer bodies -/

/-- The code of a hold policy is read as that policy (R183). -/
theorem readHold_code (hold : Hold) : readHold hold.code = some hold := by cases hold <;> rfl

/-- The record words of a STAGE ROUTE are read one by one. -/
theorem mapM_readContrib {list : List Contrib} (h : ∀ c ∈ list, c.source.toNat ≤ 65) :
    (list.map fun c => c.source ++ c.target ++ BitVec.ofBool (c.polarity == .inverted) ++ 0#8).mapM readContrib =
      some list := by
  induction list with
  | nil => rfl
  | cons c cs ih =>
    obtain ⟨hc, hcs⟩ := List.forall_mem_cons.mp h
    have polarity : (if c.polarity == .inverted then .inverted else .normal) = c.polarity := by
      cases c.polarity <;> rfl
    simp only [List.map_cons, List.mapM_cons, readContrib_word, if_pos hc, polarity, ih hcs]
    rfl

/-- STAGE ROUTE. -/
theorem readStageRoute_words (slot : Slot) (driven : Bool) (hold : Hold) (g : GroupNo) {list : List Contrib}
    (hl : list.length ≤ 4) (hs : ∀ c ∈ list, c.source.toNat ≤ 65) :
    readStageRoute ((slot ++ BitVec.ofBool driven ++ hold.code ++ g ++ 0#9 ++ BitVec.ofNat 3 list.length) ::
        list.map fun c => c.source ++ c.target ++ BitVec.ofBool (c.polarity == .inverted) ++ 0#8) =
      some ⟨slot, if driven then .driven else .released, hold, g, list⟩ := by
  have reserved : within (slot ++ BitVec.ofBool driven ++ hold.code ++ g ++ 0#9 ++ BitVec.ofNat 3 list.length)
      0xFFF007#24 = true :=
    within_of_covered ((((((Covered.field _).append (.field _)).append (.field _)).append (.field _)).append
      .zero).append (.field _)) rfl
  have length : (BitVec.ofNat 3 list.length).toNat = list.length := by
    rw [BitVec.toNat_ofNat]
    omega
  simp [-Nat.reduceAdd, -BitVec.getLsbD_eq_getElem, -BitVec.toNat_ofNat, readStageRoute, reserved, fld,
    BitVec.getLsbD_append, extractLsb'_append_eq_of_le, extractLsb'_append_eq_of_add_le, readHold_code, length, hl, mapM_readContrib hs]

/-- DEFINE REGION, its length and end checked (R124). -/
theorem readDefineRegion_words (id : RegionNo) (base : BitVec 13) (length : BitVec 14) :
    readDefineRegion [id ++ 0#8 ++ base, 0#10 ++ length] =
      if 1 ≤ length.toNat ∧ base.toNat + length.toNat ≤ 8192 then some (id, base.toNat, length.toNat) else none := by
  have reserved0 : within (id ++ 0#8 ++ base) 0xE01FFF#24 = true :=
    within_of_covered (((Covered.field _).append .zero).append (.field _)) rfl
  have reserved1 : within (0#10 ++ length) 0x003FFF#24 = true :=
    within_of_covered (Covered.zero.append (.field _)) rfl
  simp [-Nat.reduceAdd, readDefineRegion, reserved0, reserved1, fld, extractLsb'_append_eq_of_le,
    extractLsb'_append_eq_of_add_le]

/-- WRITE REGION. -/
theorem readWriteRegion_words (id : RegionNo) (offset : BitVec 13) {xs : List Sample} (h1 : 1 ≤ xs.length)
    (h47 : xs.length ≤ 47) :
    readWriteRegion ((id ++ offset ++ 0#2 ++ BitVec.ofNat 6 xs.length) :: xs) = some (id, offset.toNat, xs) := by
  have reserved : within (id ++ offset ++ 0#2 ++ BitVec.ofNat 6 xs.length) 0xFFFF3F#24 = true :=
    within_of_covered ((((Covered.field _).append (.field _)).append .zero).append (.field _)) rfl
  have count : (BitVec.ofNat 6 xs.length).toNat = xs.length := by
    rw [BitVec.toNat_ofNat]
    omega
  simp [-Nat.reduceAdd, -BitVec.toNat_ofNat, readWriteRegion, reserved, fld, extractLsb'_append_eq_of_le,
    extractLsb'_append_eq_of_add_le, count, h1, h47]

/-- A subject is read from its kind and number (R183). -/
theorem readSubject_code (sub : Subject) :
    readSubject (subjectKind (some sub)) (subjectNumber (some sub)) = some sub := by
  cases sub with
  | input n | output n => rfl
  | player p =>
    have one : p.toNat % 64 ≤ 1 := by
      have := p.isLt
      omega
    simp [readSubject, subjectKind, subjectNumber, one]

/-- A field of two bits laid out bit by bit. -/
theorem extract_two_bits {n : Nat} (x : BitVec n) (a b : BitVec 1) :
    (x ++ a ++ b).extractLsb' 0 (1 + 1) = a ++ b := by
  rw [← BitVec.extractLsb'_append_extractLsb'_eq_extractLsb' (start₁ := 0) rfl]
  simp [-Nat.reduceAdd, extractLsb'_append_eq_of_le, extractLsb'_append_eq_of_add_le]

/-- START CAPTURE. -/
theorem readStartCapture_words (id : RegionNo) (sub : Subject) (ring : Bool) (trigger : Trigger) {post : BitVec 14}
    (hp : post.toNat ≤ 8192) :
    readStartCapture
      [0#3 ++ id ++ subjectKind (some sub) ++ subjectNumber (some sub) ++ 0#1 ++ BitVec.ofBool ring ++
          (triggerCode (some trigger) ++ triggerWatch (some trigger)) ++ 0#2,
        0#10 ++ post] =
      some ⟨id, sub, if ring then .ring else .once, trigger, post.toNat⟩ := by
  have reserved0 : within (0#3 ++ id ++ subjectKind (some sub) ++ subjectNumber (some sub) ++ 0#1 ++
      BitVec.ofBool ring ++ (triggerCode (some trigger) ++ triggerWatch (some trigger)) ++ 0#2) 0x1FFFFC#24 = true :=
    within_of_covered ((((((((Covered.zero.append (.field _)).append (.field _)).append (.field _)).append
      (.zero_left 1#1)).append (.field _)).append (.field _)).append .zero)) rfl
  have reserved1 : within (0#10 ++ post) 0x003FFF#24 = true := within_of_covered (Covered.zero.append (.field _)) rfl
  have mode : (if 0#1 ++ BitVec.ofBool ring = 0#2 then some CaptureMode.once
      else if 0#1 ++ BitVec.ofBool ring = 1#2 then some .ring else none) = some (if ring then .ring else .once) := by
    cases ring <;> rfl
  have trig : (if triggerCode (some trigger) = 0#2 then
        (if triggerWatch (some trigger) = 0#4 then some Trigger.immediate else none)
      else if triggerCode (some trigger) = 1#2 then some (.watch (triggerWatch (some trigger))) else none) =
      some trigger := by cases trigger <;> rfl
  simp [-Nat.reduceAdd, readStartCapture, reserved0, reserved1, fld, extractLsb'_append_eq_of_le,
    extractLsb'_append_eq_of_add_le, extract_two_bits, readSubject_code, mode, trig, hp]

/-- SET WATCH. -/
theorem readSetWatch_words (w : WatchNo) (sub : Subject) (below : Bool) (threshold release : BitVec 23)
    {duration : BitVec 13} (h1 : 1 ≤ duration.toNat) (h4096 : duration.toNat ≤ 4096)
    (hr : if below then threshold.toNat ≤ release.toNat else release.toNat ≤ threshold.toNat) :
    readSetWatch
      [w ++ 0#2 ++ subjectKind (some sub) ++ subjectNumber (some sub) ++ 0#1 ++ BitVec.ofBool below ++ 0#8,
        0#1 ++ threshold, 0#1 ++ release, 0#11 ++ duration] =
      some (w, ⟨sub, if below then .below else .above, threshold, release, duration.toNat⟩) := by
  have reserved0 : within (w ++ 0#2 ++ subjectKind (some sub) ++ subjectNumber (some sub) ++ 0#1 ++
      BitVec.ofBool below ++ 0#8) 0xF3FD00#24 = true :=
    within_of_covered (((((((Covered.field _).append .zero).append (.field _)).append (.field _)).append .zero).append
      (.field _)).append .zero) rfl
  have reserved1 (x : BitVec 23) : within (0#1 ++ x) 0x7FFFFF#24 = true :=
    within_of_covered (Covered.zero.append (.field _)) rfl
  have reserved3 : within (0#11 ++ duration) 0x001FFF#24 = true :=
    within_of_covered (Covered.zero.append (.field _)) rfl
  simp [-Nat.reduceAdd, -BitVec.getLsbD_eq_getElem, readSetWatch, reserved0, reserved1, reserved3, fld,
    BitVec.getLsbD_append, extractLsb'_append_eq_of_le, extractLsb'_append_eq_of_add_le, readSubject_code, h1, h4096]
  cases below <;> simpa using hr

/-- Settles O46: the commands, then the bodies one by one. -/
theorem requestBodiesReadBack : Obligations.RequestBodiesReadBack := by
  unfold Obligations.RequestBodiesReadBack
  intro kind number
  have hkind : ∀ sub, kind sub = subjectKind (some sub) := fun sub => by cases sub <;> rfl
  have hnumber : ∀ sub, number sub = subjectNumber (some sub) := fun sub => by
    cases sub with
    | input n | output n => rfl
    | player p => exact (BitVec.setWidth_eq_append (by decide)).symm
  refine ⟨exec_request, fun _ _ _ => ⟨rfl, rfl⟩, fun _ _ _ => rfl, rfl, rfl, rfl,
    fun slot driven hold g list hl hs => ?_, fun id offset xs => readWriteRegion_words id offset, fun id sub ring trigger post hp => ?_,
    fun w sub below threshold release duration h1 h4096 hr => ?_, readClear_word, readMask_word, readMoveLink_word,
    fun sense delay sixteen => ?_, readLanes_word, fun source target inverted hs => ?_,
    fun source target inverted hs => ?_, readStageClear_word, rfl, readReadRoute_word, readCommit_word false,
    readCommit_word true, readSetGain_word, readSetGroup_word, readGroupMute_word, readDefineRegion_words,
    readRegionId_word, readReadRegion_word, readStartPlayer_word, readPlayerNo_word, readWatchNo_word⟩
  · cases hold with
    | live => exact readStageRoute_words slot driven .live g hl hs
    | repeatLast => exact readStageRoute_words slot driven .repeatLast g hl hs
    | zero => exact readStageRoute_words slot driven .zero g hl hs
  · rw [hkind, hnumber]
    cases trigger with
    | immediate => exact readStartCapture_words id sub ring .immediate hp
    | watch n => exact readStartCapture_words id sub ring (.watch n) hp
  · rw [hkind, hnumber]
    exact readSetWatch_words w sub below threshold release h1 h4096 hr
  · cases sixteen
    · exact readFormat_word sense delay (.inl rfl)
    · exact readFormat_word sense delay (.inr rfl)
  · rw [readContrib_word, if_pos hs]
  · rw [readContrib_word, if_neg (by omega)]

end Sys2Proof.Machine
end

section
/-! The moving counts, the countdowns and RAMP_DONE after an event that changed positions (R86, R87, R96). -/

namespace Sys2Proof.Machine

/-! ## The counts after an event -/

/-- A group record whose count has been brought up to date: a rise from 0 sets the countdown, a fall to 0 clears it
(R86). -/
def Group.counted (r : Group) (n : Nat) : Group :=
  { r with
    moving := n
    countdown := if r.moving = 0 then if n = 0 then r.countdown else r.interval
      else if n = 0 then 0 else r.countdown }

/-- A group without movers before and after is left as it is. -/
theorem Group.counted_still {r : Group} (h : r.moving = 0) : r.counted 0 = r := by
  cases r
  cases h
  rfl

/-- The count of a group rises from 0 (R86). -/
def Group.rises (r : Group) (n : Nat) : Bool := r.moving == 0 && n != 0

/-- The count of a group falls to 0 and a mover has stopped in it (R96). -/
def settlesNow (g : GroupNo) (r : Group) (old new : Table 6 Active) : Bool :=
  r.moving != 0 && movers g new == 0 && stoppedIn g old new

/-- That is what a group's settling means (R96). -/
theorem settlesNow_iff {g : GroupNo} {r : Group} {old new : Table 6 Active} :
    settlesNow g r old new = true ↔ Group.settles g r old new := by
  simp [settlesNow, Group.settles, stoppedIn_iff, and_assoc]

/-- Bringing one group's count up to date writes its record, RAMP_DONE, and the open event's parts (R86, R87, R96). -/
theorem State.syncGroup_eq (old : Table 6 Active) (s : State) (g : GroupNo) : s.syncGroup old g =
    ((s.setGroups (s.groups.put g ((s.groups.row g).counted (movers g s.active)))).setNotices
      (if settlesNow g (s.groups.row g) old s.active then s.notices.post (.rampDone g s.now) else s.notices)).setFrame
      (s.frame.map fun c => { c with todo := c.todo.filter fun p =>
        !((s.groups.row g).rises (movers g s.active) && p == .group g) }) := by
  have parts_kept (h : (s.groups.row g).rises (movers g s.active) = false) :
      (s.frame.map fun c => { c with todo := c.todo.filter fun p =>
        !((s.groups.row g).rises (movers g s.active) && p == .group g) }) = s.frame := by
    simp [h]
  by_cases hr : (s.groups.row g).moving = 0 <;> by_cases hn : movers g s.active = 0
  · rw [parts_kept (by simp [Group.rises, hn]), hn, Group.counted_still hr, Table.put_row,
      if_neg (by simp [settlesNow, hr])]
    simp only [State.syncGroup, hr, hn, if_true]
    rfl
  · have up : (s.groups.row g).rises (movers g s.active) = true := by simp [Group.rises, hr, hn]
    rw [if_neg (by simp [settlesNow, hr]), up]
    simp only [State.syncGroup, Group.counted, hr, hn, if_true, if_false, Bool.true_and]
    rfl
  · rw [parts_kept (by simp [Group.rises, hn])]
    simp only [State.syncGroup, settlesNow, Group.counted, hr, hn, if_true, if_false]
    cases stoppedIn g old s.active
    · simp
      rfl
    · simp [hr]
      rfl
  · rw [parts_kept (by simp [Group.rises, hr]), if_neg (by simp [settlesNow, hn])]
    simp only [State.syncGroup, Group.counted, hr, hn, if_false]
    rfl

/-- RAMP_DONE posted for each group of a list that settles, in the list's order (R96). -/
def NoticeSide.postSettled (n : NoticeSide) (groups : Table 3 Group) (old new : Table 6 Active) (frame : FrameNo)
    (l : List GroupNo) : NoticeSide :=
  (l.filter fun g => settlesNow g (groups.row g) old new).foldl (fun n g => n.post (.rampDone g frame)) n

/-- A part of an event that the rise of a count does not take away, of the groups of a list (R87). -/
def staysOpen (groups : Table 3 Group) (new : Table 6 Active) (l : List GroupNo) : Phase → Bool
  | .group g => !(decide (g ∈ l) && (groups.row g).rises (movers g new))
  | _ => true

/-- RAMP_DONE of one group more. -/
theorem NoticeSide.postSettled_concat (n : NoticeSide) (groups : Table 3 Group) (old new : Table 6 Active)
    (frame : FrameNo) (l : List GroupNo) (g : GroupNo) : n.postSettled groups old new frame (l ++ [g]) =
      if settlesNow g (groups.row g) old new then (n.postSettled groups old new frame l).post (.rampDone g frame)
      else n.postSettled groups old new frame l := by
  simp only [NoticeSide.postSettled, List.filter_append, List.foldl_append, List.filter_singleton]
  cases settlesNow g (groups.row g) old new <;> rfl

/-- With no group counted every part stays open. -/
theorem staysOpen_nil (groups : Table 3 Group) (new : Table 6 Active) : staysOpen groups new [] = fun _ => true := by
  funext p
  cases p <;> simp [staysOpen]

/-- The parts that stay open where one group more is counted. -/
theorem staysOpen_concat (groups : Table 3 Group) (new : Table 6 Active) (l : List GroupNo) (g : GroupNo) :
    staysOpen groups new (l ++ [g]) = fun p =>
      !((groups.row g).rises (movers g new) && p == .group g) && staysOpen groups new l p := by
  funext p
  cases p with
  | group h =>
    by_cases hg : h = g
    · subst hg
      cases hr : (groups.row h).rises (movers h new) <;> simp [staysOpen, hr]
    · simp [staysOpen, hg]
  | _ => simp [staysOpen]

/-- What was last written of the groups, the notices and the open event stands. -/
theorem State.setCounts_setCounts (s : State) (gs gs' : Table 3 Group) (n n' : NoticeSide) (f f' : Option FrameCtx) :
    (((((s.setGroups gs).setNotices n).setFrame f).setGroups gs').setNotices n').setFrame f' =
      ((s.setGroups gs').setNotices n').setFrame f' := rfl

/-- Bringing the counts of several groups up to date: each record once, whatever the others do. -/
theorem State.foldl_syncGroup (old : Table 6 Active) (s : State) (l : List GroupNo) (hl : l.Nodup) :
    l.foldl (State.syncGroup old) s =
      ((s.setGroups (Table.tab fun g =>
          if g ∈ l then (s.groups.row g).counted (movers g s.active) else s.groups.row g)).setNotices
        (s.notices.postSettled s.groups old s.active s.now l)).setFrame
        (s.frame.map fun c => { c with todo := c.todo.filter (staysOpen s.groups s.active l) }) := by
  induction l using List.reverseRecOn with
  | nil =>
    have frame : (s.frame.map fun c => { c with todo := c.todo.filter (staysOpen s.groups s.active []) }) =
        s.frame := by
      simp [staysOpen_nil]
    have records : (Table.tab fun g => if g ∈ ([] : List GroupNo) then (s.groups.row g).counted (movers g s.active)
        else s.groups.row g) = s.groups := Table.ext fun g => by simp
    rw [frame, records]
    rfl
  | append_singleton l g ih =>
    have new : g ∉ l := fun h => List.disjoint_of_nodup_append hl h (List.mem_singleton_self g)
    have record : (Table.tab fun g =>
          if g ∈ l then (s.groups.row g).counted (movers g s.active) else s.groups.row g).row g = s.groups.row g := by
      rw [Table.row_tab, if_neg new]
    rw [List.foldl_append, ih (List.nodup_append.mp hl).1, List.foldl_cons, List.foldl_nil, State.syncGroup_eq]
    simp only [State.setFrame_groups, State.setNotices_groups, State.setGroups_groups, State.setFrame_active,
      State.setNotices_active, State.setGroups_active, record, State.setCounts_setCounts]
    congr 1
    · congr 1
      · congr 1
        refine Table.ext fun h => ?_
        rw [Table.row_put, Table.row_tab, Table.row_tab]
        by_cases hg : h = g <;> simp [hg]
      · exact (NoticeSide.postSettled_concat _ _ _ _ _ _ _).symm
    · rw [State.setFrame_frame, Option.map_map]
      refine congrArg (Option.map · s.frame) (funext fun c => ?_)
      simp only [Function.comp_apply, List.filter_filter, staysOpen_concat]

/-- Where no group settles nothing is posted (R96). -/
theorem NoticeSide.postSettled_none (n : NoticeSide) {groups : Table 3 Group} {old new : Table 6 Active}
    (frame : FrameNo) (l : List GroupNo) (h : ∀ g, ¬ Group.settles g (groups.row g) old new) :
    n.postSettled groups old new frame l = n := by
  have empty : (l.filter fun g => settlesNow g (groups.row g) old new) = [] :=
    List.filter_eq_nil_iff.mpr fun g _ => by rw [settlesNow_iff]; exact h g
  rw [NoticeSide.postSettled, empty, List.foldl_nil]

/-- Where one group alone settles its RAMP_DONE alone is posted (R96). -/
theorem NoticeSide.postSettled_one (n : NoticeSide) {groups : Table 3 Group} {old new : Table 6 Active}
    (frame : FrameNo) {g : GroupNo} (hg : Group.settles g (groups.row g) old new)
    (h : ∀ h, Group.settles h (groups.row h) old new → h = g) :
    n.postSettled groups old new frame (Table.numbers 3) = n.post (.rampDone g frame) := by
  have only : ∀ h, settlesNow h (groups.row h) old new = (h == g) := fun k => by
    rw [Bool.eq_iff_iff, settlesNow_iff, beq_iff_eq]
    exact ⟨h k, fun e => e ▸ hg⟩
  have single : ((Table.numbers 3).filter fun h => settlesNow h (groups.row h) old new) = [g] := by
    simp only [only]
    rw [List.filter_beq, List.count_eq_one_of_mem (Table.nodup_numbers 3) (Table.mem_numbers g)]
    rfl
  rw [NoticeSide.postSettled, single, List.foldl_cons, List.foldl_nil]

/-- Bringing every group's count up to date (R86). -/
theorem State.syncGroups_eq (s : State) (old : Table 6 Active) : s.syncGroups old =
    ((s.setGroups (Table.tab fun g => (s.groups.row g).counted (movers g s.active))).setNotices
      (s.notices.postSettled s.groups old s.active s.now (Table.numbers 3))).setFrame
      (s.frame.map fun c => c.lessRisen s.groups s.active) := by
  have parts (c : FrameCtx) : c.lessRisen s.groups s.active =
      { c with todo := c.todo.filter (staysOpen s.groups s.active (Table.numbers 3)) } := by
    refine congrArg (fun f => { c with todo := c.todo.filter f }) (funext fun p => ?_)
    cases p <;> simp [staysOpen, Group.rises]
  rw [State.syncGroups, State.foldl_syncGroup _ _ _ (Table.nodup_numbers 3)]
  simp only [Table.mem_numbers, if_true, parts]

/-- Each record once the counts have been brought up to date (R86). -/
theorem State.syncGroups_row (s : State) (old : Table 6 Active) (g : GroupNo) :
    (s.syncGroups old).groups.row g = (s.groups.row g).counted (movers g s.active) := by
  rw [State.syncGroups_eq, State.setFrame_groups, State.setNotices_groups, State.setGroups_groups, Table.row_tab]

/-- What is posted as the counts are brought up to date (R96). -/
theorem State.syncGroups_notices (s : State) (old : Table 6 Active) : (s.syncGroups old).notices =
    s.notices.postSettled s.groups old s.active s.now (Table.numbers 3) := by
  rw [State.syncGroups_eq, State.setFrame_notices, State.setNotices_notices]

/-- What of the open event stays as the counts are brought up to date (R87). -/
theorem State.syncGroups_parts (s : State) (old : Table 6 Active) : (s.syncGroups old).frame =
    s.frame.map fun c => c.lessRisen s.groups s.active := by
  rw [State.syncGroups_eq, State.setFrame_frame]

/-- Bringing the counts up to date leaves the Active Table. -/
@[simp] theorem State.syncGroups_active (s : State) (old : Table 6 Active) : (s.syncGroups old).active = s.active := by
  obtain ⟨gs, n, f, e⟩ := s.syncGroups_frame old
  rw [e]

/-- Bringing the counts up to date leaves the Reply Queue. -/
@[simp] theorem State.syncGroups_replies (s : State) (old : Table 6 Active) :
    (s.syncGroups old).replies = s.replies := by
  obtain ⟨gs, n, f, e⟩ := s.syncGroups_frame old
  rw [e]

/-- Every count is the number of movers once the counts have been brought up to date, and what follows from a count that
changed has followed (R86, R96). -/
theorem State.countsFollow_syncGroups {s u : State} (hn : u.notices = s.notices) (ht : u.now = s.now) :
    s.countsFollow (u.syncGroups s.active) u.groups := by
  unfold State.countsFollow
  rw [State.syncGroups_active, State.syncGroups_notices, hn, ht]
  refine ⟨fun g => ?_, NoticeSide.postSettled_none _ _ _, fun g => NoticeSide.postSettled_one _ _⟩
  rw [State.syncGroups_row]
  rfl

/-- The replies do not matter to the counts. -/
theorem State.syncGroups_setReplies (s : State) (r : ReplyQueue) (old : Table 6 Active) :
    (s.setReplies r).syncGroups old = (s.syncGroups old).setReplies r := by
  rw [State.syncGroups_eq, State.syncGroups_eq]
  rfl

end Sys2Proof.Machine
end

section
/-! GROUP MUTE and SET GROUP (R84, R86 to R88, R91 to R93, R96). -/

namespace Sys2Proof.Machine

/-! ## What the requests make of one position -/

/-- A mute makes each position that neither drains nor is EMPTY follow its effective target (R88). -/
theorem Position.remute_eq (muted : Bool) (interval : Nat) (p : Position) : p.remute muted (interval == 0) =
    match p with
    | .steady c cur | .ramping c cur =>
      let goal : Gain := if muted then 0 else c.target
      if cur = goal then .steady c cur
      else if interval = 0 then .steady c goal
      else .ramping c cur
    | p => p := by
  cases p with
  | empty | draining c cur pend => rfl
  | steady c cur | ramping c cur => simp [Position.remute, follow, effective]

/-- A completed movement stands at its effective target, and a completed drain leaves its pending contributor there
(R84, R92). -/
theorem Position.complete_eq (muted : Bool) (p : Position) : p.complete muted =
    let goal (c : Contrib) : Gain := if muted then 0 else c.target
    match p with
    | .ramping c _ => .steady c (goal c)
    | .draining _ _ (some c) => .steady c (goal c)
    | .draining _ _ none => .empty
    | p => p := by
  cases p with
  | empty | steady c cur | ramping c cur => rfl
  | draining c cur pend =>
    cases pend with
    | none => rfl
    | some q =>
      by_cases h : (0 : Gain) = effective muted q
      · simp only [Position.complete, drainEnd, follow, if_pos h]
        exact congrArg (Position.steady q) h
      · simp only [Position.complete, drainEnd, follow, if_neg h]
        rfl

/-! ## The state after a request -/

/-- A reserved place leaves the group records. -/
@[simp] theorem State.reserved_groups (s : State) (tag : Tag) (code : Code) :
    (s.reserved tag code).groups = s.groups := rfl

/-- The state once a group has a new record and the Active Table new entries, and the counts have followed (R86). -/
def State.regrouped (s : State) (g : GroupNo) (r : Group) (a : Table 6 Active) : State :=
  ((s.putGroup g r).setActive a).syncGroups s.active

section
variable (s : State) (g : GroupNo) (r : Group) (a : Table 6 Active)

theorem State.regrouped_replies : (s.regrouped g r a).replies = s.replies := State.syncGroups_replies _ _

/-- The place reserved for the request does not matter to it. -/
theorem State.regrouped_reserved (tag : Tag) (code : Code) :
    (s.reserved tag code).regrouped g r a = (s.regrouped g r a).reserved tag code := by
  rw [State.reserved, State.reserved, State.regrouped_replies]
  exact State.syncGroups_setReplies ((s.putGroup g r).setActive a) _ _

end

/-- What GROUP MUTE leaves (R88). -/
theorem takeGroupMute_done {s : State} {body : List Payload} {g : GroupNo} {muted : Bool} {a : Table 6 Active}
    {r : Group} (hb : readGroupMute body = some (g, muted)) (hr : { s.groups.row g with muted := muted } = r)
    (ha : mapGroup g (Position.remute muted r.jump) s.active = a) : takeGroupMute body s =
      .done (s.regrouped g r a) (Group.words g ((s.regrouped g r a).groups.row g)) := by
  rw [takeGroupMute, checked_some hb]
  dsimp only
  rw [hr, ha]
  rfl

/-- GROUP MUTE taken at once (R88). -/
theorem exec_groupMute {s : State} {tag : Tag} {body : List Payload} {g : GroupNo} {muted : Bool} {a : Table 6 Active}
    {r : Group} (h : s.takesAtOnce tag) (hb : readGroupMute body = some (g, muted))
    (hr : { s.groups.row g with muted := muted } = r)
    (ha : mapGroup g (Position.remute muted r.jump) s.active = a) :
    exec (.groupMute ⟨tag, false, body⟩) s =
      .next ((s.regrouped g r a).answered tag .done (Group.words g ((s.regrouped g r a).groups.row g))) := by
  have rule : takeGroupMute body (s.reserved tag 16) =
      .done ((s.regrouped g r a).reserved tag 16) (Group.words g ((s.regrouped g r a).groups.row g)) := by
    rw [takeGroupMute_done (s := s.reserved tag 16) hb hr ha, State.regrouped_reserved, State.reserved_groups]
  exact congrArg Host.Outcome.next (State.deliver_done h (by decide) rule (State.regrouped_replies ..))

/-- Which steps of the open event are taken away depends on the counts alone. -/
theorem FrameCtx.lessRisen_congr {before before' : Table 3 Group}
    (h : ∀ g, (before.row g).moving = (before'.row g).moving) (c : FrameCtx) (new : Table 6 Active) :
    c.lessRisen before new = c.lessRisen before' new := by
  simp only [FrameCtx.lessRisen, h]

/-- What a group's new record and the Active Table's new entries leave alone. -/
theorem State.regrouped_frame (s : State) (g : GroupNo) (r : Group) (a : Table 6 Active) :
    ∃ gs n f, s.regrouped g r a = { s with active := a, groups := gs, notices := n, frame := f } := by
  obtain ⟨gs, n, f, e⟩ := ((s.putGroup g r).setActive a).syncGroups_frame s.active
  exact ⟨gs, n, f, by rw [State.regrouped, e]; rfl⟩

/-- What GROUP MUTE leaves of the groups, the open event, the Active Table and the Reply Queue (R86, R87, R88, R96). -/
theorem groupMute_request {s : State} {tag : Tag} {body : List Payload} {g : GroupNo} {muted : Bool}
    (h : s.takesAtOnce tag) (hb : readGroupMute body = some (g, muted)) :
    ∃ t, exec (.groupMute ⟨tag, false, body⟩) s = .next t ∧
      s.countsFollow t (s.groups.put g { s.groups.row g with muted := muted }) ∧
      t.frame = (s.frame.map fun c => c.lessRisen s.groups t.active) ∧
      t.active = mapGroup g (Position.remute muted (s.groups.row g).jump) s.active ∧
      t.replies = (s.answered tag .done (Group.words g (t.groups.row g))).replies ∧
      t = { s with
        active := t.active, groups := t.groups, replies := t.replies, notices := t.notices, frame := t.frame } := by
  obtain ⟨r, hr⟩ : ∃ r, { s.groups.row g with muted := muted } = r := ⟨_, rfl⟩
  have jump : r.jump = (s.groups.row g).jump := by rw [← hr]; rfl
  obtain ⟨a, ha⟩ : ∃ a, mapGroup g (Position.remute muted (s.groups.row g).jump) s.active = a := ⟨_, rfl⟩
  have counts : s.countsFollow (s.regrouped g r a) (s.groups.put g r) :=
    State.countsFollow_syncGroups (u := (s.putGroup g r).setActive a) rfl rfl
  have moving : ∀ h, ((s.groups.put g r).row h).moving = (s.groups.row h).moving := fun h => by
    rw [Table.row_put]
    split
    · rename_i hg
      rw [hg, ← hr]
    · rfl
  have frame : (s.regrouped g r a).frame = s.frame.map fun c => c.lessRisen s.groups a := by
    rw [State.regrouped, State.syncGroups_parts]
    exact congrArg (Option.map · s.frame) (funext fun c => c.lessRisen_congr moving a)
  refine ⟨_, exec_groupMute h hb hr (jump ▸ ha), ?_⟩
  rw [hr, ha]
  obtain ⟨gs, n, f, e⟩ := s.regrouped_frame g r a
  rw [e] at counts frame ⊢
  exact ⟨counts, frame, rfl, rfl, rfl⟩

/-! ## SET GROUP -/

/-- The group record after SET GROUP (R91, R92). -/
def Group.rated (r : Group) (step interval : Nat) : Group :=
  { r with
    step := step, interval := interval
    moving := if interval = 0 then 0 else r.moving
    countdown := if r.moving = 0 then r.countdown else interval }

/-- SET GROUP on the state: the group's record, the movements that a jump group completes, and the group's step of the
open event (R87, R91, R92). -/
theorem State.rateGroup_eq {s : State} {g : GroupNo} {step interval : Nat} {a : Table 6 Active}
    (ha : (if interval = 0 ∧ 0 < (s.groups.row g).moving then
      mapGroup g (Position.complete (s.groups.row g).muted) s.active else s.active) = a) :
    s.rateGroup g step interval = { s with
      groups := s.groups.put g ((s.groups.row g).rated step interval)
      active := a
      frame := s.frame.map fun c =>
        if interval ≠ 0 ∧ 0 < (s.groups.row g).moving then { c with todo := c.todo.filter (· ≠ .group g) }
        else c } := by
  have parts_kept (f : FrameCtx → FrameCtx) (h : ¬ (interval ≠ 0 ∧ 0 < (s.groups.row g).moving)) :
      (s.frame.map fun c => if interval ≠ 0 ∧ 0 < (s.groups.row g).moving then f c else c) = s.frame := by
    simp only [if_neg h, Option.map_id']
  subst ha
  by_cases hm : (s.groups.row g).moving = 0
  · have record : (s.groups.row g).rated step interval =
        { s.groups.row g with step := step, interval := interval } := by
      simp [Group.rated, hm]
    rw [parts_kept _ (by simp [hm]), if_neg (by simp [hm]), record]
    exact if_pos hm
  · have moves : 0 < (s.groups.row g).moving := Nat.pos_of_ne_zero hm
    by_cases hi : interval = 0
    · have record : (s.groups.row g).rated step interval =
          { s.groups.row g with step := step, interval := interval, countdown := 0, moving := 0 } := by
        simp [Group.rated, hm, hi]
      rw [parts_kept _ (by simp [hi]), if_pos ⟨hi, moves⟩, record]
      exact (if_neg hm).trans (if_pos hi)
    · have record : (s.groups.row g).rated step interval =
          { s.groups.row g with step := step, interval := interval, countdown := interval } := by
        simp [Group.rated, hm, hi]
      have skipped : (s.frame.map fun c => if interval ≠ 0 ∧ 0 < (s.groups.row g).moving then
          { c with todo := c.todo.filter (· ≠ .group g) } else c) =
            s.frame.map fun c => { c with todo := c.todo.filter (· != .group g) } := by
        have others (q : Phase) : decide (q ≠ .group g) = (q != .group g) := by simp [bne, beq_eq_decide]
        simp only [if_pos (And.intro hi moves), others]
      rw [skipped, if_neg (by simp [hi]), record]
      exact (if_neg hm).trans (if_neg hi)

/-- SET GROUP taken at once (R91). -/
theorem exec_setGroup {s : State} {tag : Tag} {body : List Payload} {g : GroupNo} {step interval : Nat}
    {a : Table 6 Active} (h : s.takesAtOnce tag) (hb : readSetGroup body = some (g, step, interval))
    (ha : (if interval = 0 ∧ 0 < (s.groups.row g).moving then
      mapGroup g (Position.complete (s.groups.row g).muted) s.active else s.active) = a) :
    exec (.setGroup ⟨tag, false, body⟩) s = .next ((s.rateGroup g step interval).answered tag .done
      (Group.words g ((s.rateGroup g step interval).groups.row g))) := by
  have reserves : (s.reserved tag 15).rateGroup g step interval = (s.rateGroup g step interval).reserved tag 15 := by
    rw [State.rateGroup_eq ha, State.rateGroup_eq (s := s.reserved tag 15) ha]
    rfl
  have rule : takeSetGroup body (s.reserved tag 15) = .done ((s.rateGroup g step interval).reserved tag 15)
      (Group.words g ((s.rateGroup g step interval).groups.row g)) := by
    rw [takeSetGroup, checked_some hb]
    dsimp only
    rw [reserves, State.reserved_groups]
  have replies : (s.rateGroup g step interval).replies = s.replies := by rw [State.rateGroup_eq ha]
  exact congrArg Host.Outcome.next (State.deliver_done h (by decide) rule replies)

/-- Settles O56: each request taken at once, its state read field by field. -/
theorem groupRequests : Obligations.GroupRequests := by
  rintro s ⟨tag, res, body⟩ (rfl : res = false) htake
  refine ⟨fun g muted hb => ?_, fun g step interval hb => ?_⟩
  · obtain ⟨t, hexec, counts, frame, active, replies, rest⟩ := groupMute_request htake hb
    refine ⟨t, hexec, counts, frame, fun i hi => ?_, fun i => ?_, fun i hi k => ?_, replies, rest⟩
    · rw [active]
      exact mapGroup_row_other hi
    · rw [active]
      exact mapGroup_row _ _ _ _
    · rw [active, mapGroup_pos hi]
      exact Position.remute_eq _ _ _
  · obtain ⟨a, ha⟩ : ∃ a, (if interval = 0 ∧ 0 < (s.groups.row g).moving then
      mapGroup g (Position.complete (s.groups.row g).muted) s.active else s.active) = a := ⟨_, rfl⟩
    have kept : ∀ i, a.row i = { s.active.row i with pos := (a.row i).pos } := fun i => by
      rw [← ha]
      split
      · exact mapGroup_row _ _ _ _
      · rfl
    refine ⟨_, exec_setGroup htake hb ha, ?_⟩
    rw [State.rateGroup_eq ha]
    refine ⟨(Table.row_put _ _ _ _).trans (if_pos rfl), fun h hh => (Table.row_put _ _ _ _).trans (if_neg hh),
      fun still => ?_, fun hi hm i => ⟨fun hg => ?_, fun hg k => ?_⟩, kept, rfl, rfl, rfl⟩
    · exact ha.symm.trans (if_neg fun moved => still.elim (· moved.1) moved.2.ne')
    · rw [if_pos ⟨hi, hm⟩] at ha
      subst ha
      exact mapGroup_row_other hg
    · rw [if_pos ⟨hi, hm⟩] at ha
      subst ha
      exact (mapGroup_pos hg k).trans (Position.complete_eq _ _)

end Sys2Proof.Machine
end

section
/-! The arithmetic of the mixer: the gain factors, the scaling of a sample, the sum of an entry (R104, R107). -/

namespace Sys2Proof.Machine

/-! ## The table of gain factors -/

/-- Each factor is its power of R104 rounded to the nearest whole number. One of the two powers of 10 is 1. -/
theorem gainFactor_rounds : ∀ c : Gain, c ≠ 0 →
    (2 * gainFactor c - 1) ^ 40 * 10 ^ (243 - c.toNat) ≤ (2 ^ 21) ^ 40 * 10 ^ (c.toNat - 243) ∧
    (2 ^ 21) ^ 40 * 10 ^ (c.toNat - 243) < (2 * gainFactor c + 1) ^ 40 * 10 ^ (243 - c.toNat) := by decide +kernel

theorem gainFactor_zero : gainFactor 0 = 0 := rfl

theorem gainFactor_one : gainFactor 1 = 1 := rfl

/-- Code 243 is unity gain. -/
theorem gainFactor_unity : gainFactor 243 = 2 ^ 20 := rfl

/-- The rounding of the factors up to unity gain. -/
theorem gainFactor_rounds_below (c : Gain) (h1 : 1 ≤ c.toNat) (h : c.toNat ≤ 243) :
    (2 * gainFactor c - 1) ^ 40 * 10 ^ (243 - c.toNat) ≤ (2 ^ 21) ^ 40 ∧
    (2 ^ 21) ^ 40 < (2 * gainFactor c + 1) ^ 40 * 10 ^ (243 - c.toNat) := by
  have rounds := gainFactor_rounds c (by rintro rfl; exact absurd h1 (by decide))
  rwa [Nat.sub_eq_zero_of_le h, pow_zero, mul_one] at rounds

/-- The rounding of the factors above unity gain. -/
theorem gainFactor_rounds_above (c : Gain) (h : 243 < c.toNat) :
    (2 * gainFactor c - 1) ^ 40 ≤ (2 ^ 21) ^ 40 * 10 ^ (c.toNat - 243) ∧
    (2 ^ 21) ^ 40 * 10 ^ (c.toNat - 243) < (2 * gainFactor c + 1) ^ 40 := by
  have rounds := gainFactor_rounds c (by rintro rfl; exact absurd h (by decide))
  rwa [Nat.sub_eq_zero_of_le h.le, pow_zero, mul_one, mul_one] at rounds

/-- Every code but 0 has a factor above 0: a factor 0 would round a power below 10^(-242/40). -/
theorem gainFactor_pos {c : Gain} (h : c ≠ 0) : 1 ≤ gainFactor c := by
  by_contra zero
  have upper := (gainFactor_rounds c h).2
  have hc : 1 ≤ c.toNat := Nat.one_le_iff_ne_zero.mpr fun h0 => h (BitVec.eq_of_toNat_eq h0)
  rw [Nat.lt_one_iff.mp (not_le.mp zero), mul_zero, zero_add, one_pow, one_mul] at upper
  refine absurd upper (not_lt.mpr ?_)
  calc 10 ^ (243 - c.toNat) ≤ 10 ^ 242 := Nat.pow_le_pow_right (by decide) (by omega)
    _ ≤ (2 ^ 21) ^ 40 := by norm_num
    _ ≤ (2 ^ 21) ^ 40 * 10 ^ (c.toNat - 243) := Nat.le_mul_of_pos_right _ (by positivity)

/-- Up to code 243 no factor is above unity. -/
theorem gainFactor_le_unity {c : Gain} (h : c.toNat ≤ 243) : gainFactor c ≤ 2 ^ 20 := by
  by_cases hc : c = 0
  · subst hc
    exact Nat.zero_le _
  · have lower := (gainFactor_rounds c hc).1
    rw [Nat.sub_eq_zero_of_le h, pow_zero, mul_one] at lower
    have power : (2 * gainFactor c - 1) ^ 40 ≤ (2 ^ 21) ^ 40 :=
      (Nat.le_mul_of_pos_right _ (by positivity)).trans lower
    have root := le_of_pow_le_pow_left₀ (by decide) (Nat.zero_le _) power
    omega

/-- No factor is above that of the highest code, 10^(12/40) rounded. -/
theorem gainFactor_le (c : Gain) : gainFactor c ≤ 2092184 := by
  by_cases h : c.toNat ≤ 243
  · exact (gainFactor_le_unity h).trans (by decide)
  · have power : (2 * gainFactor c - 1) ^ 40 < 4184369 ^ 40 :=
      calc (2 * gainFactor c - 1) ^ 40 ≤ (2 ^ 21) ^ 40 * 10 ^ (c.toNat - 243) :=
            (gainFactor_rounds_above c (not_le.mp h)).1
        _ ≤ (2 ^ 21) ^ 40 * 10 ^ 12 := Nat.mul_le_mul_left _ (Nat.pow_le_pow_right (by decide) (by omega))
        _ < 4184369 ^ 40 := by norm_num
    have root := lt_of_pow_lt_pow_left₀ 40 (Nat.zero_le _) power
    omega

/-! ## Scaling -/

/-- The scaled sample is the floor of the exact product over 2^20 (R104). -/
theorem scale_floor (x : Sample) (c : Gain) :
    2 ^ 20 * scale x c ≤ x.toInt * gainFactor c ∧ x.toInt * gainFactor c < 2 ^ 20 * (scale x c + 1) := by
  rw [scale]
  omega

/-- A sample lies in the range of 24 bits. -/
theorem sample_bounds (x : Sample) : -8388608 ≤ x.toInt ∧ x.toInt ≤ 8388607 := by
  have lower := BitVec.le_toInt x
  have upper := BitVec.toInt_lt (x := x)
  omega

/-- The range of a scaled sample, reached at the highest gain (assumption 22). -/
theorem scale_bounds (x : Sample) (c : Gain) : -16737472 ≤ scale x c ∧ scale x c ≤ 16737470 := by
  obtain ⟨lo, hi⟩ := scale_floor x c
  obtain ⟨xlo, xhi⟩ := sample_bounds x
  have g : (gainFactor c : Int) ≤ 2092184 := by exact_mod_cast gainFactor_le c
  have low : -8388608 * 2092184 ≤ x.toInt * gainFactor c := by nlinarith
  have high : x.toInt * gainFactor c ≤ 8388607 * 2092184 := by nlinarith
  omega

theorem scale_zero (x : Sample) : scale x 0 = 0 := by rw [scale, gainFactor_zero, Nat.cast_zero, mul_zero, Int.zero_ediv]

/-- Unity gain passes a sample unchanged. -/
theorem scale_unity (x : Sample) : scale x 243 = x.toInt := by
  rw [scale, gainFactor_unity]
  omega

/-- The lowest gain above 0 divides by 2^20. -/
theorem scale_one (x : Sample) : scale x 1 = x.toInt / 1048576 := by rw [scale, gainFactor_one, Nat.cast_one, mul_one]

/-- The floor keeps a negative sample below 0 at every gain but 0. -/
theorem scale_neg {x : Sample} {c : Gain} (hx : x.toInt < 0) (hc : c ≠ 0) : scale x c ≤ -1 := by
  have g : (0 : Int) < gainFactor c := by exact_mod_cast gainFactor_pos hc
  have product := mul_neg_of_neg_of_pos hx g
  have floor := (scale_floor x c).1
  omega

/-- At no more than unity gain a sample that is not negative does not grow. -/
theorem scale_shrinks_nonneg {x : Sample} {c : Gain} (hc : c.toNat ≤ 243) (hx : 0 ≤ x.toInt) :
    0 ≤ scale x c ∧ scale x c ≤ x.toInt := by
  obtain ⟨lo, hi⟩ := scale_floor x c
  have g : (gainFactor c : Int) ≤ 2 ^ 20 := by exact_mod_cast gainFactor_le_unity hc
  have product := mul_le_mul_of_nonneg_left g hx
  have nonneg := mul_nonneg hx (Int.natCast_nonneg (gainFactor c))
  omega

/-- At no more than unity gain a negative sample does not grow. -/
theorem scale_shrinks_neg {x : Sample} {c : Gain} (hc : c.toNat ≤ 243) (hx : x.toInt < 0) : x.toInt ≤ scale x c := by
  have hi := (scale_floor x c).2
  have g : (gainFactor c : Int) ≤ 2 ^ 20 := by exact_mod_cast gainFactor_le_unity hc
  have product := mul_le_mul_of_nonpos_left g hx.le
  omega

/-- Settles O37: the rounded table, its bounds, and the floor. -/
theorem gainArithmetic : Obligations.GainArithmetic := by
  refine ⟨gainFactor_zero, gainFactor_rounds_below, gainFactor_rounds_above, scale_floor, fun source target cur x => ?_,
    fun _ _ _ => ⟨rfl, rfl⟩, fun x => ⟨scale_zero x, scale_unity x⟩, fun x h0 h1 => ?_, fun x h0 h1 => ?_,
    fun _ _ => scale_neg, fun _ _ hc => ⟨scale_shrinks_nonneg hc, scale_shrinks_neg hc⟩, ⟨1, -1, 1, rfl, rfl⟩,
    scale_bounds⟩
  · have inverted : Contrib.contribution ⟨source, target, .inverted⟩ x cur = -(scale x cur) := rfl
    have bounds := scale_bounds x cur
    exact ⟨rfl, rfl, by omega, by omega⟩
  · rw [scale_one]
    omega
  · rw [scale_one]
    omega

/-! ## The sum of an entry -/

/-- A contribution lies in the range of a scaled sample, negated or not. -/
theorem Contrib.contribution_bounds (c : Contrib) (x : Sample) (cur : Gain) :
    -16737472 ≤ c.contribution x cur ∧ c.contribution x cur ≤ 16737472 := by
  have bounds := scale_bounds x cur
  rw [Contrib.contribution]
  split
  · omega
  · omega

/-- A position contributes no more than its contributor. -/
theorem Position.contribution_bounds (source : Source → Sample) (p : Position) :
    -16737472 ≤ p.contribution source ∧ p.contribution source ≤ 16737472 := by
  cases p with
  | empty => exact ⟨show (_ : Int) ≤ 0 by decide, show (0 : Int) ≤ _ by decide⟩
  | steady c cur => exact c.contribution_bounds _ _
  | ramping c cur => exact c.contribution_bounds _ _
  | draining c cur pend => exact c.contribution_bounds _ _

/-- The sum of an entry takes its four positions (R107). -/
theorem Active.sum_eq (source : Source → Sample) (e : Active) : e.sum source =
    (e.pos.row 0).contribution source + (e.pos.row 1).contribution source
      + (e.pos.row 2).contribution source + (e.pos.row 3).contribution source := by
  have four : Table.numbers 2 = [0, 1, 2, 3] := rfl
  simp [Active.sum, Table.toList_eq, four, add_assoc]

/-- Settles O38: the sum, its bounds, its saturation, and the result in flight. -/
theorem sumIsExactThenSaturated : Obligations.SumIsExactThenSaturated := by
  refine ⟨fun source e => ?_, fun _ => rfl, fun _ _ _ _ => rfl, ?_, fun x => ?_, fun s c i hi =>
    ⟨_, by simp [State.flightOf, State.sums_computed hi], toInt_saturate _⟩⟩
  · have bounds (n : BitVec 2) := (e.pos.row n).contribution_bounds source
    have b0 := bounds 0
    have b1 := bounds 1
    have b2 := bounds 2
    have b3 := bounds 3
    rw [Active.sum_eq]
    exact ⟨rfl, by omega, by omega⟩
  · have negated : Contrib.contribution ⟨0, 243, .inverted⟩ 0x800000 243 = 8388608 :=
      congrArg (- ·) (scale_unity 0x800000)
    rw [negated]
    rfl
  · simp only [saturate]
    refine ⟨fun high => if_pos high, fun low => ?_, fun h1 h2 => ?_⟩
    · rw [if_neg (by omega), if_pos low]
    · rw [if_neg (by omega), if_neg (by omega)]

end Sys2Proof.Machine
end

section
/-! READ STATUS and READ CLIPS (R115, R174, R175, R185): what they answer, and what their clear option leaves. -/

namespace Sys2Proof

/-- A row stands in the list of rows at its own number. -/
theorem Table.getElem?_toList {k : Nat} {α : Type} (t : Table k α) (i : BitVec k) :
    t.toList[i.toNat]? = some (t.row i) := by
  rw [Table.toList_eq, Table.numbers, List.map_map, List.getElem?_map, List.getElem?_range i.isLt]
  simp

namespace Machine

open BitVec (extractLsb'_append_eq_of_le extractLsb'_append_eq_of_add_le)

/-! ## READ STATUS -/

/-- READ STATUS taken at once. -/
theorem exec_readStatus {s : State} {tag : Tag} {body : List Payload} {clear : Bool} (h : s.takesAtOnce tag)
    (hb : readClear body = some clear) : exec (.readStatus ⟨tag, false, body⟩) s =
      .next ((if clear then s.clearCounters else s).answered tag .done (statusWords s)) := by
  refine congrArg Host.Outcome.next (State.deliver_done h (by decide) ((checked_some hb).trans ?_) ?_)
  · cases clear <;> rfl
  · cases clear <;> rfl

/-! ## The packed counts -/

/-- Bit `n` of the counts written one after another, each from its highest bit; 0 after the last. -/
def streamBit (l : List (BitVec 16)) (n : Nat) : Bool := (l.getD (n / 16) 0).getLsbD (15 - n % 16)

/-- The first 16 bits are the first count's. -/
theorem streamBit_head {a : BitVec 16} {l : List (BitVec 16)} {n : Nat} (h : n < 16) :
    streamBit (a :: l) n = a.getLsbD (15 - n) := by
  rw [streamBit, Nat.div_eq_of_lt h, Nat.mod_eq_of_lt h, List.getD_cons_zero]

/-- After the first count's bits come those of the rest. -/
theorem streamBit_tail (a : BitVec 16) (l : List (BitVec 16)) (n : Nat) :
    streamBit (a :: l) (16 + n) = streamBit l n := by
  rw [streamBit, Nat.add_div_left n (by decide), Nat.add_mod_left, List.getD_cons_succ, streamBit]

/-- The first word of three: a count and the upper half of the next. -/
theorem streamBit_first (a b : BitVec 16) (l : List (BitVec 16)) {j : Nat} (hj : j < 24) :
    (a ++ b.extractLsb' 8 8).getLsbD (23 - j) = streamBit (a :: b :: l) j := by
  rw [BitVec.getLsbD_append]
  by_cases h : j < 16
  · rw [streamBit_head h, if_neg (by omega)]
    congr 1
    omega
  · obtain ⟨k, rfl⟩ : ∃ k, j = 16 + k := ⟨j - 16, by omega⟩
    rw [streamBit_tail, streamBit_head (by omega), if_pos (by omega), BitVec.getLsbD_extractLsb']
    simp only [show 23 - (16 + k) < 8 by omega, decide_true, Bool.true_and]
    congr 1
    omega

/-- The second word of three: the lower half of the second count, and the third count. -/
theorem streamBit_second (a b c : BitVec 16) (l : List (BitVec 16)) {j : Nat} (hj : j < 24) :
    (b.extractLsb' 0 8 ++ c).getLsbD (23 - j) = streamBit (a :: b :: c :: l) (24 + j) := by
  have past : 24 + j = 16 + (8 + j) := by omega
  rw [BitVec.getLsbD_append, past, streamBit_tail]
  by_cases h : j < 8
  · rw [streamBit_head (by omega), if_neg (by omega), BitVec.getLsbD_extractLsb']
    simp only [show 23 - j - 16 < 8 by omega, decide_true, Bool.true_and]
    congr 1
    omega
  · obtain ⟨k, rfl⟩ : ∃ k, j = 8 + k := ⟨j - 8, by omega⟩
    have next : 8 + (8 + k) = 16 + k := by omega
    rw [next, streamBit_tail, streamBit_head (by omega), if_pos (by omega)]
    congr 1
    omega

/-- A count of 0 behind the last changes no bit. -/
theorem streamBit_concat_zero (l : List (BitVec 16)) (n : Nat) : streamBit (l ++ [0]) n = streamBit l n := by
  have filled : (l ++ [0]).getD (n / 16) 0 = l.getD (n / 16) 0 := by
    by_cases h : n / 16 < l.length
    · exact List.getD_append _ _ _ _ h
    · rw [List.getD_append_right _ _ _ _ (Nat.le_of_not_lt h), List.getD_eq_default l _ (Nat.le_of_not_lt h),
        List.getD_eq_getElem?_getD, List.getElem?_getD_singleton_default_eq]
  rw [streamBit, filled, streamBit]

/-- The packing takes three counts at a time into two words, and so keeps the bits in their order. -/
theorem pack16_getElem? (l : List (BitVec 16)) (i : Nat) (hi : i < (pack16 l).length) :
    ∃ w, (pack16 l)[i]? = some w ∧ ∀ j < 24, w.getLsbD (23 - j) = streamBit l (24 * i + j) := by
  induction l using pack16.induct generalizing i with
  | case1 a b c rest ih =>
    match i with
    | 0 => exact ⟨_, rfl, fun j hj => by rw [mul_zero, zero_add, ← streamBit_first a b _ hj]⟩
    | 1 => exact ⟨_, rfl, fun j hj => streamBit_second a b c rest hj⟩
    | i + 2 =>
      obtain ⟨w, hw, bits⟩ := ih i (by simpa [pack16] using hi)
      refine ⟨w, hw, fun j hj => ?_⟩
      have past : 24 * (i + 2) + j = 16 + (16 + (16 + (24 * i + j))) := by omega
      rw [past, streamBit_tail, streamBit_tail, streamBit_tail, bits j hj]
  | case2 a b =>
    match i with
    | 0 => exact ⟨_, rfl, fun j hj => by rw [mul_zero, zero_add, ← streamBit_first a b _ hj]⟩
    | 1 => exact ⟨_, rfl, fun j hj => (streamBit_second a b 0 [] hj).trans (streamBit_concat_zero [a, b] _)⟩
  | case3 a =>
    match i with
    | 0 => exact ⟨_, rfl, fun j hj => by
        rw [mul_zero, zero_add, ← streamBit_concat_zero]
        exact streamBit_first a 0 [] hj⟩
  | case4 => exact absurd hi (Nat.not_lt_zero i)

/-- The packing of a list has the words that 16 bits for each count fill. -/
theorem length_pack16 (l : List (BitVec 16)) : (pack16 l).length = (16 * l.length + 23) / 24 := by
  induction l using pack16.induct with
  | case1 a b c rest ih =>
    simp only [pack16, List.length_cons, ih]
    omega
  | case2 a b => simp [pack16]
  | case3 a => simp [pack16]
  | case4 => simp [pack16]

/-! ## READ CLIPS -/

/-- READ CLIPS taken at once. -/
theorem exec_readClips {s : State} {tag : Tag} {body : List Payload} {clear : Bool} (h : s.takesAtOnce tag)
    (hb : readClear body = some clear) : exec (.readClips ⟨tag, false, body⟩) s =
      .next ((if clear then s.clearClips else s).answered tag .done
        ((0#17 ++ BitVec.ofNat 7 (s.mixer.clips.toList.countP fun x => x != 0)) :: pack16 s.mixer.clips.toList)) := by
  refine congrArg Host.Outcome.next (State.deliver_done h (by decide) ((checked_some hb).trans ?_) ?_)
  · cases clear <;> rfl
  · cases clear <;> rfl

/-- The 64 counts fill 43 words (R185). -/
theorem length_pack16_clips (t : Table 6 (BitVec 16)) : (pack16 t.toList).length = 43 := by
  simp [length_pack16]

/-- Each bit of a packed table stands in its row. -/
theorem streamBit_toList {t : Table 6 (BitVec 16)} (i : Slot) {j : Nat} (hj : j < 16) :
    streamBit t.toList (16 * i.toNat + j) = (t.row i).getLsbD (15 - j) := by
  have place : (16 * i.toNat + j) / 16 = i.toNat := by omega
  have offset : (16 * i.toNat + j) % 16 = j := by omega
  rw [streamBit, place, offset, List.getD_eq_getElem?_getD, Table.getElem?_toList, Option.getD_some]

/-- After the last row the packed bits are 0. -/
theorem streamBit_toList_over {t : Table 6 (BitVec 16)} {n : Nat} (hn : 1024 ≤ n) : streamBit t.toList n = false := by
  rw [streamBit, List.getD_eq_default _ _ (by rw [Vector.length_toList]; omega)]
  exact BitVec.getLsbD_zero

/-- Settles O49: each reply read bit by bit, and the state that its clear option leaves. -/
theorem countersAnswerThenClear : Obligations.CountersAnswerThenClear := by
  constructor
  · rintro s ⟨tag, res, body⟩ clear (rfl : res = false) htake hb
    refine ⟨?_, ?_, _, _, _, _, _, _, _, _, _, _, _, rfl, ?_⟩
    · rintro rfl
      exact exec_readStatus htake hb
    · rintro rfl
      exact exec_readStatus htake hb
    · simp +contextual [-Nat.reduceAdd, -BitVec.getLsbD_eq_getElem, fld, low16, bit, BitVec.getLsbD_append,
        extractLsb'_append_eq_of_le, extractLsb'_append_eq_of_add_le]
  · rintro s ⟨tag, res, body⟩ clear (rfl : res = false) htake hb reply
    have words := length_pack16_clips s.mixer.clips
    refine ⟨congrArg (· + 1) words, fun i j hj => ?_, ?_, ?_, ?_⟩
    · obtain ⟨w, hw, bits⟩ := pack16_getElem? s.mixer.clips.toList ((16 * i.toNat + j) / 24) (by omega)
      refine ⟨w, by rw [Nat.add_comm 1]; exact hw, ?_⟩
      rw [bits _ (Nat.mod_lt _ (by decide)), Nat.div_add_mod, streamBit_toList i hj]
    · obtain ⟨w, hw, bits⟩ := pack16_getElem? s.mixer.clips.toList 42 (by omega)
      refine ⟨w, hw, BitVec.eq_of_getLsbD_eq fun n hn => ?_⟩
      have last := (bits (23 - n) (by omega)).trans (streamBit_toList_over (by omega))
      have place : 23 - (23 - n) = n := by omega
      rw [fld, BitVec.getLsbD_extractLsb', Nat.zero_add, ← place, last]
      simp
    · rintro rfl
      exact exec_readClips htake hb
    · rintro rfl
      refine ⟨s.clearClips, exec_readClips htake hb, rfl, fun i => Table.row_tab (fun _ => 0) i, rfl, rfl, rfl,
        List.length_map _, fun i n hn => ?_⟩
      have emptied : s.clearClips.notices.queue[i]? = some { n with val := n.val.emptyClip } := by
        simp [State.clearClips, hn]
      rw [emptied]
      cases n with | mk val count => cases val <;> rfl

end Machine
end Sys2Proof
end

section
/-! The sample memory, the regions and their users as one part of the machine: which parts of an event and which requests
write it, and what a law of it must be kept by for every step to keep it (R119 to R131). -/

namespace Sys2Proof.Machine

/-! ## The sample store -/

/-- The sample memory, the Region Table and the region users' records (chapters 7 to 9). -/
def State.sampleStore (s : State) : Memory × Nat × Table 3 (Option Region) × Capture × Table 1 Player :=
  (s.memory, s.powerUps, s.regions, s.capture, s.players)

section
variable (s : State)

/-! What the rules of the other requests write is not of the sample store. -/

@[simp] theorem State.sampleStore_setTiming (v : Timing) : (s.setTiming v).sampleStore = s.sampleStore := rfl
@[simp] theorem State.sampleStore_setStaged (v : Table 6 Staged) : (s.setStaged v).sampleStore = s.sampleStore := rfl
@[simp] theorem State.sampleStore_setActive (v : Table 6 Active) : (s.setActive v).sampleStore = s.sampleStore := rfl
@[simp] theorem State.sampleStore_setCommit (v : Option Commit) : (s.setCommit v).sampleStore = s.sampleStore := rfl
@[simp] theorem State.sampleStore_setGroups (v : Table 3 Group) : (s.setGroups v).sampleStore = s.sampleStore := rfl
@[simp] theorem State.sampleStore_setWatches (v : Table 4 Watch) : (s.setWatches v).sampleStore = s.sampleStore := rfl
@[simp] theorem State.sampleStore_setFrame (v : Option FrameCtx) : (s.setFrame v).sampleStore = s.sampleStore := rfl
@[simp] theorem State.sampleStore_reply (tag : Tag) (st : Status) (body : List Payload) :
    (s.reply tag st body).sampleStore = s.sampleStore := rfl
end

/-- Bringing the groups' counts up to date leaves the sample store (R86). -/
@[simp] theorem State.sampleStore_syncGroups (s : State) (old : Table 6 Active) :
    (s.syncGroups old).sampleStore = s.sampleStore := by
  obtain ⟨gs, n, f, e⟩ := s.syncGroups_frame old
  rw [e]
  rfl

/-- The postings before a request is taken leave the sample store (R158). -/
theorem State.sampleStore_postEnds (s : State) : s.postEnds.sampleStore = s.sampleStore := by
  obtain ⟨n, f, e⟩ := s.postEnds_frame
  rw [e]
  rfl

/-- A request's rule leaves the sample store, or is one of the seven rules for the regions and their users (R124 to R126,
R136, R147, R155, R157). -/
theorem Queued.take_cases (q : Queued) (s : State) :
    (q.take s).Leaves (fun t => t.sampleStore = s.sampleStore) ∨
      q.take s = takeDefineRegion q.body s ∨ q.take s = takeReleaseRegion q.body s ∨
      q.take s = takeWriteRegion q.body s ∨ q.take s = takeStartCapture q.body s ∨
      q.take s = takeStopCapture q.body s ∨ q.take s = takeStartPlayer q.body s ∨
      q.take s = takeStopPlayer q.body s := by
  simp only [Queued.take]
  split
  case h_19 => simp only [true_or, or_true]
  case h_20 => simp only [true_or, or_true]
  case h_21 => simp only [true_or, or_true]
  case h_24 => simp only [true_or, or_true]
  case h_25 => simp only [true_or, or_true]
  case h_27 => simp only [true_or, or_true]
  case h_28 => simp only [or_true]
  case h_33 => exact .inl trivial
  all_goals refine .inl (checked_leaves fun x _ => ?_)
  case h_2 => cases x <;> rfl
  case h_3 =>
    cases x with
    | routing =>
      simp only [State.resetRouting]
      cases s.commit <;> rfl
    | full => trivial
  case h_14 =>
    dsimp only
    split
    · trivial
    · simp [Taken.Leaves, State.putActive]
  case h_15 =>
    simp only [State.rateGroup, Taken.Leaves]
    repeat' split
    all_goals simp [State.putGroup, State.skipGroup]
  case h_16 => simp [Taken.Leaves, State.putGroup]
  case h_18 => cases x <;> rfl
  case h_1 | h_4 | h_17 | h_23 | h_26 | h_29 | h_32 => rfl
  case h_5 =>
    dsimp only
    repeat' split
    all_goals trivial
  all_goals repeat' split
  all_goals simp [Taken.Leaves, State.putStaged, State.putWatch, State.endCommit]

/-! ## Parts of an event -/

/-- The parts of an event that may write the sample store: the players' and the capture's steps, an effect, and those in
which requests are taken. -/
def Phase.writesStore : Phase → Bool
  | .player _ | .capture | .parser | .effect | .drain => true
  | _ => false

/-- Every other part leaves the sample store. -/
theorem State.sampleStore_runPhase {s : State} {p : Phase} (hp : Phase.writesStore p = false) :
    (s.runPhase p).sampleStore = s.sampleStore := by
  simp only [State.runPhase]
  split
  · rfl
  · rename_i c _
    cases p with
    | entryNotice | effectNotice => obtain ⟨n, e⟩ := s.postEntry_frame c.entry; simp only [e]; rfl
    | entryParser | effectParser => obtain ⟨p, n, e⟩ := s.parserEntry_frame c.entry; simp only [e]; rfl
    | group g => obtain ⟨a, gs, n, e⟩ := s.groupStep_frame g; simp only [e]; rfl
    | commitTest =>
      obtain ⟨a, st, k, gs, n, r, f, e⟩ := s.commitStep_frame (c.kind == .arrival); simp only [e]; rfl
    | playerNotice n => obtain ⟨ns, f, e⟩ := s.postEnd_frame c n; simp only [e]; rfl
    | output => obtain ⟨m, p, f, e⟩ := s.beginOutput_frame; simp only [e]; rfl
    | mixer =>
      cases hd : s.timing.state.driving with
      | false => simp [State.mix, hd]
      | true => obtain ⟨n, e⟩ := s.mix_frame c hd; simp only [e]; rfl
    | watch w => obtain ⟨ws, n, f, e⟩ := s.watchStep_frame c w; simp only [e]; rfl
    | word => obtain ⟨k, r, n, x, p, e⟩ := s.emitWord_frame; simp only [e]; rfl
    | player | capture | parser | effect | drain => cases hp

/-- An effect leaves the sample store, or is that of RESET FULL (R17, R37, R179). -/
theorem State.takeEffect_cases (s : State) :
    s.takeEffect.sampleStore = s.sampleStore ∨ s.takeEffect = (s.setEntry none).fullReset := by
  simp only [State.takeEffect]
  split
  · rename_i eff _
    cases eff with
    | moveLink inb outb =>
      left
      simp only [State.moveLink, State.abandon_clear]
      rfl
    | setFormat f =>
      left
      simp only [State.changeFormat, State.enterSearch_eq]
      split <;> rfl
    | resetFull => exact .inr rfl
  · exact .inl rfl

/-! ## Laws of the sample store -/

/-- What a law must be read off, and kept by, for every step to keep it: it is read off the sample store, and kept by the
requests' rules, the players' and the capture's frame steps, RESET FULL and pin reset. -/
structure StoreLaw (P : State → Prop) : Prop where
  congr : ∀ {s t : State}, P s → t.sampleStore = s.sampleStore → P t
  take : ∀ (q : Queued) {s : State}, P s → (q.take s).Leaves P
  player : ∀ (p : PlayerNo) {s : State}, P s → P (s.playerStep p)
  capture : ∀ (c : FrameCtx) {s : State}, P s → P (s.captureStep c)
  fullReset : ∀ {s : State}, P s → P s.fullReset
  pinReset : ∀ {s : State}, P s → P s.pinReset

namespace StoreLaw

variable {P : State → Prop} (k : StoreLaw P) {s : State} (h : P s)
include k h

/-- A taking and its completion (R42 to R44). -/
theorem complete (q : Queued) : P (s.complete q.tag (q.outcome s)) := by
  have left : (q.outcome s).Leaves P := by
    simp only [Queued.outcome]
    split
    · trivial
    · exact k.take q h
  cases ho : q.outcome s <;> rw [ho] at left
  · exact k.congr h rfl
  · exact k.congr left rfl
  · exact left
  · exact k.congr h rfl

/-- The Executor working off its queue (R41). -/
theorem drain (n : Nat) : P (s.drain n) :=
  State.drain_keeps (fun s q rest _ _ hs =>
    k.complete (s := s.postEnds.setCmdq rest) (k.congr hs s.sampleStore_postEnds) q) n s h

/-- The outcome of the trailer checks (R28, R47). -/
theorem settle (tag : Tag) (code : Code) (res : Bool) (body : List Payload) (verdict : Option Status) :
    P (s.settle tag code res body verdict) := by
  simp only [State.settle]
  repeat' split
  · exact k.congr h rfl
  · exact k.congr h rfl
  · refine k.drain ?_ _
    exact k.congr h rfl

/-- The parser's word (R22 to R28, R33 to R35). -/
theorem parserWord (w : LinkBits) : P (s.parserWord w) := by
  obtain ⟨p, n, e⟩ | e | ⟨p, tag, code, res, body, v, e⟩ := s.parserWord_cases w <;> rw [e]
  · exact k.congr h rfl
  · exact k.congr h rfl
  · exact k.settle (s := s.setParser p) (k.congr h rfl) _ _ _ _ _

/-- The effect of a fenced request (R17, R37, R179). -/
theorem takeEffect : P s.takeEffect := by
  obtain e | e := s.takeEffect_cases
  · exact k.congr h e
  · rw [e]
    exact k.fullReset (k.congr h rfl)

/-- Every part of a timing event. -/
theorem phase (p : Phase) : P (s.runPhase p) := by
  cases hs : s.frame with
  | none => simpa only [State.runPhase, hs] using h
  | some c =>
    cases p with
    | player n => simpa only [State.runPhase, hs] using k.player n h
    | capture => simpa only [State.runPhase, hs] using k.capture c h
    | parser => simpa only [State.runPhase, hs] using k.parserWord h c.word
    | effect => simpa only [State.runPhase, hs] using k.takeEffect h
    | drain => simpa only [State.runPhase, hs] using k.drain h 1
    | _ => exact k.congr h (State.sampleStore_runPhase rfl)

omit h in
/-- Every operation that a step is made of keeps the law. -/
theorem kept : Kept P where
  frame _ _ h := k.congr h rfl
  phase _ p h := k.phase h p
  deliver _ _ _ h := k.settle h _ _ _ _ _
  timing _ _ h := k.congr h rfl
  release _ h := k.congr h rfl
  restart s h := k.congr h (by rw [State.markRestart_eq]; rfl)
  reset _ := k.pinReset
  pending _ _ h := k.congr h rfl

end StoreLaw

end Sys2Proof.Machine
end

section
/-! The sample memory's canonical form, its reading back and its two writers (R119, R122, R126). -/

namespace Sys2Proof.Machine

/-! ## What writes the memory -/

/-- What reads the memory alone is kept by every update that a request's rule may make beside WRITE REGION's. -/
theorem RuleUpdates.of_memory {P : State → Prop}
    (congr : ∀ {s t : State}, P s → t.memory = s.memory → t.powerUps = s.powerUps → P t) : RuleUpdates P where
  staged _ _ h := congr h rfl rfl
  active _ _ h := congr h rfl rfl
  commit _ _ h := congr h rfl rfl
  groups _ _ h := congr h rfl rfl
  replies _ _ h := congr h rfl rfl
  notices _ _ h := congr h rfl rfl
  mixer _ _ _ h := congr h rfl rfl
  regions _ _ h := congr h rfl rfl
  capture _ _ h := congr h rfl rfl
  players _ _ h := congr h rfl rfl
  watches _ _ h := congr h rfl rfl
  skip _ _ h := congr h rfl rfl
  counters _ h := congr h rfl rfl
  lanes _ _ _ h := congr h rfl rfl

/-- The memory is as it was, or has one more word of some region written. -/
def State.StoresAtMostOne (s t : State) : Prop :=
  t.memory = s.memory ∨ ∃ (r : Region) (offset : Nat) (v : Sample), t.memory = s.memory.write (r.address offset) v

/-- A stop of the capture writes no word (R146). -/
theorem State.stopCapture_memory (s : State) (reason : EndReason) : (s.stopCapture reason).memory = s.memory := by
  obtain ⟨k, rs, n, e⟩ := s.stopCapture_frame reason
  rw [e]

/-- The capture's frame step stores one word of its region at most (R138 to R145). -/
theorem State.captureStep_storesAtMostOne (s : State) (c : FrameCtx) : s.StoresAtMostOne (s.captureStep c) := by
  have filling : ∀ k r sub, s.StoresAtMostOne ((s.setCapture k).storeFilling c r sub) := by
    intro k r sub
    refine .inr ⟨r, k.writeOffset, c.value sub, ?_⟩
    simp only [State.storeFilling]
    split
    · rw [State.stopCapture_memory]; rfl
    · rfl
  have post : ∀ k r sub, s.StoresAtMostOne ((s.setCapture k).storePost c r sub) := by
    intro k r sub
    refine .inr ⟨r, k.writeOffset, c.value sub, ?_⟩
    simp only [State.storePost]
    split
    · rw [State.stopCapture_memory]; rfl
    · rfl
  simp only [State.captureStep]
  repeat' split
  · exact .inl rfl
  · exact filling _ _ _
  · exact filling _ _ _
  · exact .inl rfl
  · exact .inl (State.stopCapture_memory _ _)
  · exact post _ _ _
  · exact post _ _ _
  · exact filling s.capture _ _
  · exact post s.capture _ _
  · exact .inl rfl

/-! ## The canonical form -/

/-- The canonical form is kept by every operation that a step is made of: each word is written at an address of the
memory (R122). -/
theorem State.memoryLaw_store : StoreLaw State.memoryLaw where
  congr h e := by
    have hm := congrArg Prod.fst e
    exact (congrArg Memory.wf hm).trans h
  take q s h := by
    refine (RuleUpdates.of_memory (P := State.memoryLaw) fun h hm _ => ?_).take q (fun _ s r offset xs hs => ?_) h
    · exact (congrArg Memory.wf hm).trans h
    · exact r.wf_writeAll xs s.memory offset hs
  player p s h := by
    obtain ⟨ps, rs, f, e⟩ := s.playerStep_frame p
    rw [e]
    exact h
  capture c s h := by
    obtain e | ⟨r, offset, v, e⟩ := s.captureStep_storesAtMostOne c
    · exact (congrArg Memory.wf e).trans h
    · exact (congrArg Memory.wf e).trans (s.memory.wf_write _ v (r.address_lt offset) h)
  fullReset h := by rw [State.fullReset_eq]; exact h
  pinReset _ := State.reset_memoryLaw

/-- Settles O11: the canonical form is a law of the sample store. -/
theorem memoryFormIsKept : Obligations.MemoryFormIsKept :=
  fun _ _ h hstep => State.memoryLaw_store.kept.step h hstep

/-! ## What keeps the contents -/

/-- Both states hold the same samples: the same words written, and the same unknown ones. -/
def State.SameWords (s t : State) : Prop := t.memory = s.memory ∧ t.powerUps = s.powerUps

/-- The same samples read the same. -/
theorem State.SameWords.word {s t : State} (h : s.SameWords t) (a : Nat) : t.word a = s.word a := by
  simp only [State.word, h.1, h.2]

/-- What leaves the sample store keeps the samples. -/
theorem State.sameWords_of_store {s t : State} (h : t.sampleStore = s.sampleStore) : s.SameWords t :=
  ⟨congrArg (·.1) h, congrArg (·.2.1) h⟩

/-- Every request but WRITE REGION, code 21, keeps the samples (R119, R126). -/
theorem State.sameWords_complete (s : State) {q : Queued} (hq : q.code.toNat ≠ 21) :
    s.SameWords (s.complete q.tag (q.outcome s)) := by
  have updates : RuleUpdates s.SameWords := .of_memory fun h hm hp => ⟨hm.trans h.1, hp.trans h.2⟩
  have left := updates.outcome q (fun h => absurd h hq) ⟨rfl, rfl⟩
  cases ho : q.outcome s <;> rw [ho] at left
  · exact ⟨rfl, rfl⟩
  · exact left
  · exact left
  · exact ⟨rfl, rfl⟩

/-- Every part of an event but the capture's store and the requests taken there keeps the samples (R119). -/
theorem State.sameWords_runPhase (s : State) {p : Phase} (hc : p ≠ .capture) (hp : p ≠ .parser) (hd : p ≠ .drain) :
    s.SameWords (s.runPhase p) := by
  cases hs : s.frame with
  | none => simp only [State.runPhase, hs]; exact ⟨rfl, rfl⟩
  | some c =>
    cases p with
    | capture => exact absurd rfl hc
    | parser => exact absurd rfl hp
    | drain => exact absurd rfl hd
    | player n =>
      obtain ⟨ps, rs, f, e⟩ := s.playerStep_frame n
      simp only [State.runPhase, hs, e]
      exact ⟨rfl, rfl⟩
    | effect =>
      simp only [State.runPhase, hs]
      obtain e | e := s.takeEffect_cases
      · exact State.sameWords_of_store e
      · rw [e, State.fullReset_eq]
        exact ⟨rfl, rfl⟩
    | _ =>
      refine State.sameWords_of_store (State.sampleStore_runPhase ?_)
      rfl

/-! ## Reading back -/

/-- A region within the memory has each of its offsets at its own place (R120, R122). -/
theorem Region.address_of_lt {r : Region} {offset : Nat} (h : r.base + offset < 8192) :
    r.address offset = r.base + offset := Nat.mod_eq_of_lt h

/-- Settles O13: a write and the words read after it, a region's addresses, and what the requests and the parts of an
event keep. -/
theorem memoryReadsBackAndIsKept : Obligations.MemoryReadsBackAndIsKept := by
  refine ⟨fun s a b v => ⟨?_, fun hb => ?_⟩, fun r i hl hr => ?_, fun s q hq => ?_, fun s p hc hp hd => ?_⟩
  · simp only [State.word, State.setMemory_memory, Memory.read_write_same, Option.getD_some]
  · simp only [State.word, State.setMemory_memory, State.setMemory_powerUps, Memory.read_write_other _ _ _ _ hb]
  · have offset := Nat.mod_lt (r.oldest + i) hl
    exact Region.address_of_lt (by omega)
  · exact (s.sameWords_complete hq).word
  · exact (s.sameWords_runPhase hc hp hd).word

end Sys2Proof.Machine
end

section
/-! The law of the regions and their users (R120, R121, R130, R131): what each claim, return, store and definition makes of
it. -/

namespace Sys2Proof

/-- A replaced row changes the count of the rows that meet a check by that row alone. -/
theorem Table.countP_put {k : Nat} {α : Type} (t : Table k α) (i : BitVec k) (a : α) (f : α → Bool) :
    (t.put i a).toList.countP f + (if f (t.row i) then 1 else 0) = t.toList.countP f + if f a then 1 else 0 := by
  have row : t.toList[i.toNat]'(by simpa using i.isLt) = t.row i := rfl
  have found : (if f (t.row i) then 1 else 0) ≤ t.toList.countP f := by
    split
    · rename_i hf
      exact List.countP_pos_iff.mpr ⟨t.row i, Table.mem_toList.mpr ⟨i, rfl⟩, hf⟩
    · exact Nat.zero_le _
  have inside : i.toNat < t.toList.length := by simpa using i.isLt
  rw [Table.put, Vector.toList_set, List.countP_set inside, row]
  omega

namespace Machine

/-! ## Who uses a region -/

/-- The player plays the region. -/
def Player.plays (v : Player) (id : RegionNo) : Bool := v.playing && v.region == some id

/-- The capture runs and fills the region. -/
def Capture.fills (k : Capture) (id : RegionNo) : Prop := k.state ≠ .idle ∧ k.region = some id

/-- A running capture fills a defined region and has its offsets within it (R130, R134). -/
def Capture.holds (k : Capture) (t : Table 3 (Option Region)) : Prop :=
  k.state ≠ .idle → ∃ id r, k.region = some id ∧ t.row id = some r ∧ k.runs r

/-- A player that plays plays a defined region (R131). -/
def Player.holds (v : Player) (t : Table 3 (Option Region)) : Prop :=
  v.playing = true → ∃ id r, v.region = some id ∧ t.row id = some r

/-- What the use of a region says of its users (R120). -/
def State.UsedAs (s : State) (id : RegionNo) (w : RegionUse) : Prop :=
  w.users = s.playersOf id ∧ (w = .capturing ↔ s.capture.fills id) ∧ w ≠ .playing 0

/-- A player plays a region where it is PLAYING and names it. -/
theorem Player.plays_iff {v : Player} {id : RegionNo} : v.plays id = true ↔ v.playing = true ∧ v.region = some id := by
  show (v.playing && v.region == some id) = true ↔ _
  rw [Bool.and_eq_true, beq_iff_eq]

/-- A player that plays a region plays no other. -/
theorem Player.plays_eq {v : Player} {id : RegionNo} (hplay : v.playing = true) (hid : v.region = some id)
    (j : RegionNo) : v.plays j = decide (j = id) := by
  rw [Bool.eq_iff_iff, Player.plays_iff, decide_eq_true_eq, hid, Option.some_inj]
  exact ⟨fun h => h.2.symm, fun h => ⟨hplay, h.symm⟩⟩

/-- A player that is IDLE plays no region. -/
theorem Player.plays_idle {v : Player} (h : v.playing = false) (j : RegionNo) : v.plays j = false :=
  Bool.eq_false_iff.mpr fun hp => Bool.eq_false_iff.mp h ((Player.plays_iff).mp hp).1

/-- A region that a player plays counts it among its users. -/
theorem State.playersOf_pos {s : State} {p : PlayerNo} {id : RegionNo} (h : (s.players.row p).plays id = true) :
    0 < s.playersOf id :=
  List.countP_pos_iff.mpr ⟨s.players.row p, Table.mem_toList.mpr ⟨p, rfl⟩, h⟩

/-- A replaced player record changes the users of a region by that player alone. -/
theorem State.playersOf_put (s u : State) {p : PlayerNo} {v : Player} (hu : u.players = s.players.put p v)
    (id : RegionNo) : u.playersOf id + (if (s.players.row p).plays id then 1 else 0) =
      s.playersOf id + if v.plays id then 1 else 0 := by
  simp only [State.playersOf, hu]
  exact Table.countP_put s.players p v fun v => v.plays id

/-- The law, with the users' parts said of each user. -/
theorem State.regionLaw_iff {s : State} : s.regionLaw ↔
    (∀ id r, s.regions.row id = some r → s.regionLegal id r) ∧
    (∀ a b, a ≠ b → ∀ r q, s.regions.row a = some r → s.regions.row b = some q →
      Region.overlaps r.base r.length q = false) ∧
    s.capture.holds s.regions ∧ ∀ p, (s.players.row p).holds s.regions := by
  have capture : (s.capture.state ≠ .idle → ∃ r ∈ s.captureRegion, s.capture.runs r) ↔ s.capture.holds s.regions := by
    show _ ↔ (s.capture.state ≠ .idle →
      ∃ id r, s.capture.region = some id ∧ s.regions.row id = some r ∧ s.capture.runs r)
    simp only [State.captureRegion]
    cases s.capture.region <;> simp
  have player : ∀ p, ((s.players.row p).playing = true → (s.playerRegion p).isSome = true) ↔
      (s.players.row p).holds s.regions := by
    intro p
    show _ ↔ ((s.players.row p).playing = true → ∃ id r, (s.players.row p).region = some id ∧ s.regions.row id = some r)
    simp only [State.playerRegion]
    cases (s.players.row p).region <;> simp [Option.isSome_iff_exists]
  constructor
  · rintro ⟨legal, apart, hk, hp⟩
    exact ⟨legal, fun a b hab r q hr hq => apart a b hab r hr q hq, capture.mp hk, fun p => (player p).mp (hp p)⟩
  · rintro ⟨legal, apart, hk, hp⟩
    exact ⟨legal, fun a b hab r hr q hq => apart a b hab r q hr hq, capture.mpr hk, fun p => (player p).mpr (hp p)⟩

/-- A use that tells the players' number and whether the capture fills the region. -/
theorem State.usedAs_iff {s : State} {id : RegionNo} {w : RegionUse} : s.UsedAs id w ↔
    w.users = s.playersOf id ∧ (w = .capturing ↔ s.capture.fills id) ∧ w ≠ .playing 0 := Iff.rfl

/-- What use a region is in depends on the users alone. -/
theorem State.usedAs_congr {s u : State} {id : RegionNo} {w : RegionUse} (hp : u.playersOf id = s.playersOf id)
    (hk : u.capture.fills id ↔ s.capture.fills id) (h : s.UsedAs id w) : u.UsedAs id w := by
  obtain ⟨users, filled, busy⟩ := h
  exact ⟨users.trans hp.symm, filled.trans hk.symm, busy⟩

/-- READY: no player plays the region and no capture fills it. -/
theorem State.usedAs_ready {s : State} {id : RegionNo} :
    s.UsedAs id .ready ↔ s.playersOf id = 0 ∧ ¬ s.capture.fills id := by
  simp [State.usedAs_iff, RegionUse.users, eq_comm]

/-- CAPTURING: the capture fills the region and no player plays it. -/
theorem State.usedAs_capturing {s : State} {id : RegionNo} :
    s.UsedAs id .capturing ↔ s.playersOf id = 0 ∧ s.capture.fills id := by
  simp [State.usedAs_iff, RegionUse.users, eq_comm]

/-- PLAYING: as many players as there are users play the region, and no capture fills it. -/
theorem State.usedAs_playing {s : State} {id : RegionNo} {n : Nat} :
    s.UsedAs id (.playing n) ↔ s.playersOf id = n ∧ ¬ s.capture.fills id ∧ n ≠ 0 := by
  simp [State.usedAs_iff, RegionUse.users, eq_comm]

/-! ## Changes of a region's record -/

/-- Records with the extents of those before, each legal, and users that hold regions, meet the law. -/
theorem State.regionLaw_of {s u : State} (h : s.regionLaw)
    (extent : ∀ id r, u.regions.row id = some r →
      ∃ q, s.regions.row id = some q ∧ r.base = q.base ∧ r.length = q.length)
    (legal : ∀ id r, u.regions.row id = some r → u.regionLegal id r) (capture : u.capture.holds u.regions)
    (players : ∀ p, (u.players.row p).holds u.regions) : u.regionLaw := by
  obtain ⟨-, apart, -, -⟩ := (State.regionLaw_iff).mp h
  refine (State.regionLaw_iff).mpr ⟨legal, fun a b hab r q hr hq => ?_, capture, players⟩
  obtain ⟨r', hr', hbase, hlength⟩ := extent a r hr
  obtain ⟨q', hq', hbase', hlength'⟩ := extent b q hq
  have := apart a b hab r' q' hr' hq'
  simp only [Region.overlaps] at this ⊢
  rwa [hbase, hlength, hbase', hlength']

/-- Users that change no region's use keep the law. -/
theorem State.regionLaw_of_users {s u : State} (h : s.regionLaw) (hregs : u.regions = s.regions)
    (used : ∀ id w, s.UsedAs id w → u.UsedAs id w) (capture : u.capture.holds s.regions)
    (players : ∀ p, (u.players.row p).holds s.regions) : u.regionLaw := by
  obtain ⟨legal, -, -, -⟩ := (State.regionLaw_iff).mp h
  refine State.regionLaw_of h (fun id r hr => ⟨r, hregs ▸ hr, rfl, rfl⟩) (fun id r hr => ?_) (hregs ▸ capture)
    (hregs ▸ players)
  obtain ⟨h1, h2, h3, h4, huse⟩ := legal id r (hregs ▸ hr)
  exact ⟨h1, h2, h3, h4, used id r.use huse⟩

/-- The law is read off the regions and their users. -/
theorem State.regionLaw_congr {s u : State} (h : s.regionLaw) (hregs : u.regions = s.regions)
    (hcap : u.capture = s.capture) (hplay : u.players = s.players) : u.regionLaw := by
  obtain ⟨-, -, hk, hp⟩ := (State.regionLaw_iff).mp h
  exact State.regionLaw_of_users h hregs
    (fun id w => State.usedAs_congr (by rw [State.playersOf, hplay]; rfl) (by rw [hcap])) (hcap ▸ hk) (hplay ▸ hp)

/-- What leaves the sample store keeps the law. -/
theorem State.regionLaw_of_store {s u : State} (h : s.regionLaw) (e : u.sampleStore = s.sampleStore) : u.regionLaw :=
  State.regionLaw_congr h (congrArg (·.2.2.1) e) (congrArg (·.2.2.2.1) e) (congrArg (·.2.2.2.2) e)

/-- A capture fills a region where it runs and names it. -/
theorem Capture.fills_iff {k : Capture} {id : RegionNo} : k.fills id ↔ k.state ≠ .idle ∧ k.region = some id := Iff.rfl

/-- A capture keeps its region where the extent is kept. -/
theorem Capture.holds_put {k : Capture} {t : Table 3 (Option Region)} {id : RegionNo} {r r' : Region}
    (hr : t.row id = some r) (hlength : r'.length = r.length) (h : k.holds t) : k.holds (t.put id (some r')) := by
  intro hrun
  obtain ⟨j, q, hj, hq, hruns⟩ := h hrun
  by_cases hji : j = id
  · subst hji
    obtain rfl := Option.some.inj (hr.symm.trans hq)
    exact ⟨j, r', hj, by rw [Table.row_put, if_pos rfl], by rwa [Capture.runs, hlength]⟩
  · exact ⟨j, q, hj, by rw [Table.row_put, if_neg hji, hq], hruns⟩

/-- A player keeps its region where it stays defined. -/
theorem Player.holds_put {v : Player} {t : Table 3 (Option Region)} {id : RegionNo} {r' : Region} (h : v.holds t) :
    v.holds (t.put id (some r')) := by
  intro hplay
  obtain ⟨j, q, hj, hq⟩ := h hplay
  by_cases hji : j = id
  · exact ⟨j, r', hj, by rw [Table.row_put, if_pos hji]⟩
  · exact ⟨j, q, hj, by rw [Table.row_put, if_neg hji, hq]⟩

/-- A region's record with its extent kept, and a use that its users give it, keeps the law. -/
theorem State.regionLaw_put {s u : State} {id : RegionNo} {r : Region} {valid oldest : Nat} {w : RegionUse}
    (h : s.regionLaw) (hr : s.regions.row id = some r)
    (hregs : u.regions = s.regions.put id (some { r with valid := valid, oldest := oldest, use := w }))
    (hvalid : valid ≤ r.length) (holdest : oldest < r.length) (huse : u.UsedAs id w)
    (used : ∀ j w, j ≠ id → s.UsedAs j w → u.UsedAs j w) (capture : u.capture.holds s.regions)
    (players : ∀ p, (u.players.row p).holds s.regions) : u.regionLaw := by
  obtain ⟨legal, -, -, -⟩ := (State.regionLaw_iff).mp h
  have row : ∀ j, u.regions.row j =
      if j = id then some { r with valid := valid, oldest := oldest, use := w } else s.regions.row j :=
    fun j => by rw [hregs, Table.row_put]
  refine State.regionLaw_of h (fun j q hq => ?_) (fun j q hq => ?_) ?_ fun p => ?_
  · by_cases hj : j = id
    · rw [row, if_pos hj] at hq
      obtain rfl := Option.some.inj hq
      exact ⟨r, hj ▸ hr, rfl, rfl⟩
    · rw [row, if_neg hj] at hq
      exact ⟨q, hq, rfl, rfl⟩
  · by_cases hj : j = id
    · rw [row, if_pos hj] at hq
      obtain rfl := Option.some.inj hq
      obtain ⟨hpos, hmem, -⟩ := legal id r hr
      exact ⟨hpos, hmem, hvalid, holdest, hj ▸ huse⟩
    · rw [row, if_neg hj] at hq
      obtain ⟨h1, h2, h3, h4, hused⟩ := legal j q hq
      exact ⟨h1, h2, h3, h4, used j q.use hj hused⟩
  · rw [hregs]
    exact Capture.holds_put hr rfl capture
  · rw [hregs]
    exact Player.holds_put (players p)

end Machine
end Sys2Proof
end

section
/-! Each request and each frame step of the region users keeps the law of the regions (R124 to R126, R130, R131, R136, R139
to R147, R155 to R157). -/

namespace Sys2Proof.Machine

/-! ## The region requests -/

/-- A definition that is read lies within the memory (R124). -/
theorem readDefineRegion_bounds {body : List Payload} {id : RegionNo} {base length : Nat}
    (h : readDefineRegion body = some (id, base, length)) : 1 ≤ length ∧ base + length ≤ Config.memoryWords := by
  unfold readDefineRegion at h
  split at h
  · dsimp only at h
    split at h
    · rename_i hok
      obtain ⟨-, rfl, rfl⟩ := h
      simp only [Bool.and_eq_true, decide_eq_true_eq] at hok
      obtain ⟨⟨-, hpos⟩, hmem⟩ := hok
      exact ⟨hpos, hmem⟩
    · cases h
  · cases h

/-- Two extents overlap either way round (R120). -/
theorem Region.overlaps_comm (r q : Region) :
    Region.overlaps r.base r.length q = Region.overlaps q.base q.length r := Bool.and_comm _ _

/-- Some defined region has an address in common with an extent (R120, R124). -/
theorem any_overlaps_iff {t : Table 3 (Option Region)} {base length : Nat} :
    (t.toList.any fun r => r.any (Region.overlaps base length)) = true ↔
      ∃ (j : RegionNo) (q : Region), t.row j = some q ∧ base < q.base + q.length ∧ q.base < base + length := by
  simp only [Table.toList_eq, List.any_map, List.any_eq_true, Table.mem_numbers, true_and, Function.comp_apply,
    Option.any_eq_true, Region.overlaps, Bool.and_eq_true, decide_eq_true_eq]

/-- A capture holds its region whatever becomes of a region that it does not fill. -/
theorem Capture.holds_put_other {k : Capture} {t : Table 3 (Option Region)} {id : RegionNo} {r : Option Region}
    (hid : ¬ k.fills id) (h : k.holds t) : k.holds (t.put id r) := by
  intro hrun
  obtain ⟨j, q, hj, hq, hruns⟩ := h hrun
  have hji : j ≠ id := fun e => hid ⟨hrun, e ▸ hj⟩
  exact ⟨j, q, hj, by rw [Table.row_put, if_neg hji, hq], hruns⟩

/-- A player holds its region whatever becomes of a region that it does not play. -/
theorem Player.holds_put_other {v : Player} {t : Table 3 (Option Region)} {id : RegionNo} {r : Option Region}
    (hid : ¬ v.plays id = true) (h : v.holds t) : v.holds (t.put id r) := by
  intro hplay
  obtain ⟨j, q, hj, hq⟩ := h hplay
  have hji : j ≠ id := fun e => hid ((Player.plays_iff).mpr ⟨hplay, e ▸ hj⟩)
  exact ⟨j, q, hj, by rw [Table.row_put, if_neg hji, hq]⟩

/-- Nothing uses an UNDEFINED region (R130, R131). -/
theorem State.unused_of_undefined {s : State} {id : RegionNo} (h : s.regionLaw) (hid : s.regions.row id = none) :
    s.playersOf id = 0 ∧ ¬ s.capture.fills id := by
  obtain ⟨-, -, hk, hp⟩ := (State.regionLaw_iff).mp h
  constructor
  · refine List.countP_eq_zero.mpr fun v hv hplays => ?_
    obtain ⟨p, rfl⟩ := Table.mem_toList.mp hv
    obtain ⟨hplay, hreg⟩ := (Player.plays_iff).mp hplays
    obtain ⟨j, q, hj, hq⟩ := hp p hplay
    obtain rfl := Option.some.inj (hreg.symm.trans hj)
    rw [hid] at hq
    cases hq
  · rintro ⟨hrun, hreg⟩
    obtain ⟨j, q, hj, hq, -⟩ := hk hrun
    obtain rfl := Option.some.inj (hreg.symm.trans hj)
    rw [hid] at hq
    cases hq

/-- The use of a defined region is that its users give it (R120). -/
theorem State.usedAs_of_law {s : State} {id : RegionNo} {r : Region} (h : s.regionLaw) (hr : s.regions.row id = some r) :
    s.UsedAs id r.use := by
  obtain ⟨-, -, -, -, huse⟩ := h.1 id r hr
  exact huse

/-- A new record where none stood, legal and apart from the others, or none where nothing uses the region. -/
theorem State.regionLaw_putRegion {s : State} {id : RegionNo} {r : Option Region} (h : s.regionLaw)
    (unplayed : s.playersOf id = 0) (unfilled : ¬ s.capture.fills id)
    (legal : ∀ q ∈ r, s.regionLegal id q)
    (apart : ∀ q ∈ r, ∀ j q', j ≠ id → s.regions.row j = some q' → Region.overlaps q.base q.length q' = false) :
    (s.putRegion id r).regionLaw := by
  obtain ⟨hlegal, hapart, hk, hp⟩ := (State.regionLaw_iff).mp h
  have row : ∀ j, (s.putRegion id r).regions.row j = if j = id then r else s.regions.row j := fun j => by
    rw [State.putRegion, State.setRegions_regions, Table.row_put]
  refine (State.regionLaw_iff).mpr ⟨fun j q hq => ?_, fun a b hab q q' hq hq' => ?_,
    Capture.holds_put_other unfilled hk, fun p => Player.holds_put_other (fun hplays => ?_) (hp p)⟩
  · rw [row] at hq
    split at hq
    · rename_i hj
      exact hj ▸ legal q hq
    · exact hlegal j q hq
  · rw [row] at hq hq'
    split at hq
    · rename_i ha
      rw [if_neg (ha ▸ hab.symm)] at hq'
      exact apart q hq b q' (ha ▸ hab.symm) hq'
    · split at hq'
      · rename_i ha _
        rw [Region.overlaps_comm]
        exact apart q' hq' a q ha hq
      · exact hapart a b hab q q' hq hq'
  · have : 0 < s.playersOf id := State.playersOf_pos hplays
    omega

/-- DEFINE REGION keeps the law (R124). -/
theorem State.regionLaw_define {s : State} (body : List Payload) (h : s.regionLaw) :
    (takeDefineRegion body s).Leaves State.regionLaw := by
  refine checked_leaves ?_
  rintro ⟨id, base, length⟩ hb
  dsimp only
  split
  · trivial
  rename_i hid
  split
  · trivial
  rename_i hover
  have undefined : s.regions.row id = none := by simpa using hid
  obtain ⟨unplayed, unfilled⟩ := State.unused_of_undefined h undefined
  obtain ⟨hpos, hmem⟩ := readDefineRegion_bounds hb
  refine State.regionLaw_putRegion h unplayed unfilled ?_ ?_
  · rintro _ ⟨⟩
    exact ⟨hpos, hmem, Nat.zero_le _, hpos, (State.usedAs_ready).mpr ⟨unplayed, unfilled⟩⟩
  · rintro _ ⟨⟩ j q _ hq
    refine Bool.eq_false_iff.mpr fun ho => hover ((any_overlaps_iff).mpr ⟨j, q, hq, ?_⟩)
    simpa only [Region.overlaps, Bool.and_eq_true, decide_eq_true_eq] using ho

/-- RELEASE REGION keeps the law (R125). -/
theorem State.regionLaw_release {s : State} (body : List Payload) (h : s.regionLaw) :
    (takeReleaseRegion body s).Leaves State.regionLaw := by
  refine checked_leaves fun id _ => ?_
  split
  · trivial
  rename_i r hr
  split
  · rename_i hready
    obtain ⟨unplayed, unfilled⟩ := (State.usedAs_ready).mp (hready ▸ State.usedAs_of_law h hr)
    exact State.regionLaw_putRegion h unplayed unfilled (by rintro _ ⟨⟩) (by rintro _ ⟨⟩)
  · trivial

/-- WRITE REGION keeps the law: its last word lies within the region (R126). -/
theorem State.regionLaw_write {s : State} (body : List Payload) (h : s.regionLaw) :
    (takeWriteRegion body s).Leaves State.regionLaw := by
  refine checked_leaves ?_
  rintro ⟨id, offset, xs⟩ -
  dsimp only
  split
  · trivial
  rename_i r hr
  split
  · trivial
  split
  · trivial
  rename_i hin
  obtain ⟨hpos, -, hvalid, -⟩ := h.1 id r hr
  obtain ⟨-, -, hk, hp⟩ := (State.regionLaw_iff).mp h
  have hused := State.usedAs_of_law h hr
  exact State.regionLaw_put h hr rfl (max_le hvalid (not_lt.mp hin)) hpos hused
    (fun _ _ _ hused => hused) hk hp

/-! ## The capture -/

/-- The record of a capture once it has stored a sample (R139, R140, R141). -/
def Capture.stored (k : Capture) (c : FrameCtx) (r : Region) (now : FrameNo) : Capture :=
  { k with
    writeOffset := if k.mode = some .ring ∧ k.writeOffset + 1 = r.length then 0 else k.writeOffset + 1
    written := min r.length (k.written + 1)
    startFrame := if k.written = 0 then some now else k.startFrame
    holdoverFrames := if c.kind = .emitted then satInc k.holdoverFrames else k.holdoverFrames }

/-- The write offset after a store: a RING capture's wraps (R140). -/
theorem Capture.stored_writeOffset (k : Capture) (c : FrameCtx) (r : Region) (now : FrameNo) :
    (k.stored c r now).writeOffset =
      if k.mode = some .ring ∧ k.writeOffset + 1 = r.length then 0 else k.writeOffset + 1 := rfl

/-- A store writes one word and the record (R139). -/
theorem State.store_eq (s : State) (c : FrameCtx) (r : Region) (sub : Subject) : s.store c r sub =
    (s.setMemory (s.memory.write (r.address s.capture.writeOffset) (c.value sub))).setCapture
      (s.capture.stored c r s.now) := rfl

/-- After a store a capture runs on, but for an ONCE capture that has filled its region (R139, R140). -/
theorem Capture.stored_runs {k : Capture} {r : Region} (c : FrameCtx) (now : FrameNo) (h : k.runs r)
    (hfull : ¬ (k.mode = some .once ∧ (k.stored c r now).writeOffset = r.length)) : (k.stored c r now).runs r := by
  obtain ⟨hoff, hwritten, hsub, hmode, hpost⟩ := h
  refine ⟨?_, Nat.min_le_left _ _, hsub, hmode, hpost⟩
  rw [Capture.stored_writeOffset] at hfull ⊢
  split
  · omega
  · rename_i hwrap
    rw [if_neg hwrap] at hfull
    have : k.writeOffset + 1 ≠ r.length := by
      cases hm : k.mode with
      | none => simp [hm] at hmode
      | some m =>
        cases m with
        | once => exact fun e => hfull ⟨hm, e⟩
        | ring => exact fun e => hwrap ⟨hm, e⟩
    omega

/-- The oldest offset that a stop gives lies within the region (R146). -/
theorem Capture.oldestAtStop_lt {k : Capture} {n : Nat} (h0 : 0 < n) (h : k.mode = some .ring → k.writeOffset < n) :
    k.oldestAtStop n < n := by
  simp only [Capture.oldestAtStop]
  split
  · rename_i hring
    exact h hring.1
  · exact h0

section
variable {s : State} {id : RegionNo} {r : Region} (hk : s.capture.region = some id) (hr : s.regions.row id = some r)
include hk hr

/-- The region that the capture's record names (R134). -/
theorem State.captureRegion_eq : s.captureRegion = some r := by simp only [State.captureRegion, hk, hr]

/-- The stop of a capture that has a region: the record, the region and CAPTURE_STATE (R130, R146). -/
theorem State.stopCapture_eq (reason : EndReason) : s.stopCapture reason =
    (((s.setCapture { s.capture with state := .idle, endReason := some reason }).putRegion id
      (some { r with
        use := .ready, valid := s.capture.written, oldest := s.capture.oldestAtStop r.length })).post
      (.captureState s.now (Capture.report { s.capture with state := .idle, endReason := some reason }
        s.capture.written (s.capture.oldestAtStop r.length)))) := by
  simp only [State.stopCapture, hk, State.captureRegion_eq hk hr]
  rfl

end

/-- A capture that runs in a region may stop there. -/
theorem Capture.stops_of_runs {k : Capture} {r : Region} (h : k.runs r) :
    k.written ≤ r.length ∧ (k.mode = some .ring → k.writeOffset < r.length) := by
  obtain ⟨hoff, hwritten, -⟩ := h
  exact ⟨hwritten, fun _ => hoff⟩

/-- A running capture has its region, CAPTURING, and runs within it (R130). -/
theorem State.running_of_law {s : State} (h : s.regionLaw) (hrun : s.capture.state ≠ .idle) :
    ∃ id r, s.capture.region = some id ∧ s.regions.row id = some r ∧ s.capture.runs r ∧ s.UsedAs id .capturing := by
  obtain ⟨-, -, hk, -⟩ := (State.regionLaw_iff).mp h
  obtain ⟨id, r, hid, hr, hruns⟩ := hk hrun
  have hused := State.usedAs_of_law h hr
  have huse : r.use = .capturing := by
    obtain ⟨-, hcapturing, -⟩ := hused
    exact hcapturing.mpr ⟨hrun, hid⟩
  exact ⟨id, r, hid, hr, hruns, huse ▸ hused⟩

/-- A running capture's record may change while it runs within its region. -/
theorem State.regionLaw_setCapture {s : State} {k : Capture} (h : s.regionLaw) (hrun : s.capture.state ≠ .idle)
    (hregion : k.region = s.capture.region) (hk : k.state ≠ .idle)
    (hruns : ∀ r, s.captureRegion = some r → s.capture.runs r → k.runs r) : (s.setCapture k).regionLaw := by
  obtain ⟨id, r, hid, hr, hruns', -⟩ := State.running_of_law h hrun
  obtain ⟨-, -, -, hp⟩ := (State.regionLaw_iff).mp h
  have fills : ∀ j, k.fills j ↔ s.capture.fills j := fun j => by simp [Capture.fills_iff, hregion, hrun, hk]
  exact State.regionLaw_of_users h rfl (fun j w => State.usedAs_congr rfl (fills j))
    (fun _ => ⟨id, r, hregion.trans hid, hr, hruns r (State.captureRegion_eq hid hr) hruns'⟩) hp

/-- The stop of a running capture, whatever its record has become, keeps the law (R130, R146). -/
theorem State.regionLaw_stop {s : State} {k : Capture} (reason : EndReason) (h : s.regionLaw)
    (hrun : s.capture.state ≠ .idle) (hregion : k.region = s.capture.region)
    (hbounds : ∀ r, s.captureRegion = some r → s.capture.runs r →
      k.written ≤ r.length ∧ (k.mode = some .ring → k.writeOffset < r.length)) :
    ((s.setCapture k).stopCapture reason).regionLaw := by
  obtain ⟨id, r, hid, hr, hruns, hused⟩ := State.running_of_law h hrun
  obtain ⟨-, -, -, hp⟩ := (State.regionLaw_iff).mp h
  obtain ⟨hwritten, hoffset⟩ := hbounds r (State.captureRegion_eq hid hr) hruns
  have positive : 0 < r.length := Nat.zero_lt_of_lt hruns.1
  obtain ⟨unplayed, -⟩ := (State.usedAs_capturing).mp hused
  rw [State.stopCapture_eq (s := s.setCapture k) (hregion.trans hid) hr reason]
  refine State.regionLaw_put h hr rfl hwritten (Capture.oldestAtStop_lt positive hoffset)
    ((State.usedAs_ready).mpr ⟨unplayed, fun hf => hf.1 rfl⟩) (fun j w hj => State.usedAs_congr rfl ?_)
    (fun hn => absurd rfl hn) hp
  have elsewhere : ¬ s.capture.fills j := fun hf => hj (Option.some.inj (hf.2.symm.trans hid))
  exact ⟨fun hf => absurd rfl hf.1, fun hf => absurd hf elsewhere⟩

section
variable {s : State} {r : Region} (c : FrameCtx) (sub : Subject) (h : s.regionLaw) (hr : s.captureRegion = some r)
  (hrun : s.capture.state ≠ .idle)
include h hr hrun

/-- The capture runs in the region that its record names. -/
theorem State.runs_of_law : s.capture.runs r := by
  obtain ⟨id, q, hid, hq, hruns, -⟩ := State.running_of_law h hrun
  obtain rfl := Option.some.inj (hr.symm.trans (State.captureRegion_eq hid hq))
  exact hruns

/-- A store in FILLING keeps the law: a capture that has filled its region stops (R139). -/
theorem State.regionLaw_storeFilling : (s.storeFilling c r sub).regionLaw := by
  have hruns := State.runs_of_law h hr hrun
  have stored : ∀ m, (s.setMemory m).regionLaw := fun m => State.regionLaw_congr h rfl rfl rfl
  simp only [State.storeFilling, State.store_eq, State.setCapture_capture]
  refine iteInduction (motive := State.regionLaw) (fun hfull => ?_) fun hfull => ?_
  · refine State.regionLaw_stop _ (stored _) hrun rfl fun q hq _ => ⟨?_, fun hring => ?_⟩
    · obtain rfl := Option.some.inj (hr.symm.trans hq)
      exact Nat.min_le_left _ _
    · cases hfull.1.symm.trans hring
  · refine State.regionLaw_setCapture (stored _) hrun rfl hrun fun q hq _ => ?_
    obtain rfl := Option.some.inj (hr.symm.trans hq)
    exact Capture.stored_runs c s.now hruns hfull

/-- A store in POST keeps the law: the write offset wraps (R140, R145). -/
theorem State.regionLaw_storePost (hpost : s.capture.state = .post) : (s.storePost c r sub).regionLaw := by
  have hruns := State.runs_of_law h hr hrun
  obtain ⟨-, -, -, -, hring⟩ := id hruns
  have ring : s.capture.mode = some .ring := hring hpost
  have stored : ∀ m, ((s.setMemory m).setCapture (s.capture.stored c r s.now)).regionLaw := fun m => by
    refine State.regionLaw_setCapture (s := s.setMemory m) (State.regionLaw_congr h rfl rfl rfl) hrun rfl hrun
      fun q hq _ => ?_
    obtain rfl := Option.some.inj (hr.symm.trans hq)
    exact Capture.stored_runs c s.now hruns fun hfull => by cases ring.symm.trans hfull.1
  simp only [State.storePost, State.store_eq, State.setCapture_capture]
  refine iteInduction (motive := State.regionLaw) (fun _ => ?_) fun _ => ?_
  · exact State.regionLaw_stop _ (stored _) hrun rfl fun _ _ => Capture.stops_of_runs
  · exact State.regionLaw_setCapture (stored _) hrun rfl hrun fun q _ hq => hq

end

/-- A capture goes on from a record: it keeps its region, its mode and its offsets, and is in POST only as a RING capture or
where it was (R142 to R144). -/
def Capture.GoesOn (k k0 : Capture) : Prop :=
  k = { k0 with state := k.state, triggerOffset := k.triggerOffset, postRemaining := k.postRemaining } ∧
    k.state ≠ .idle ∧ (k.state = .post → k0.state = .post ∨ k0.mode = some .ring)

/-- A capture that goes on runs within the region that it ran in. -/
theorem Capture.GoesOn.runs {k k0 : Capture} {r : Region} (h : k.GoesOn k0) (hr : k0.runs r) : k.runs r := by
  obtain ⟨e, -, hpost⟩ := h
  obtain ⟨hoff, hwritten, hsub, hmode, hring⟩ := hr
  rw [e]
  exact ⟨hoff, hwritten, hsub, hmode, fun hp => (hpost hp).elim hring id⟩

/-- The capture's frame step does nothing, or stops the capture at its trigger, or takes a store in FILLING or in POST; its
postings aside, it goes on from its record (R138, R142 to R145). -/
theorem State.captureStep_cases (s : State) (c : FrameCtx) : s.captureStep c = s ∨
    ∃ r sub k, s.captureRegion = some r ∧ s.capture.state ≠ .idle ∧ k.GoesOn s.capture ∧
      (s.captureStep c = (s.setCapture k).stopCapture .postDone ∨
        (s.captureStep c).sampleStore = ((s.setCapture k).storeFilling c r sub).sampleStore ∨
        k.state = .post ∧ (s.captureStep c).sampleStore = ((s.setCapture k).storePost c r sub).sampleStore) := by
  simp only [State.captureStep]
  split
  · rename_i r sub hr hsub
    split
    · exact .inl rfl
    · rename_i hk
      split
      · refine .inr ⟨r, sub, { s.capture with state := .filling, triggerOffset := some s.capture.writeOffset }, hr,
          by simp [hk], ⟨rfl, by simp, by simp⟩, .inr (.inl ?_)⟩
        split <;> rfl
      · exact .inl rfl
    · rename_i hk
      split
      · rename_i htrigger
        split
        · exact .inr ⟨r, sub, { s.capture with triggerOffset := some s.capture.writeOffset }, hr, by simp [hk],
            ⟨rfl, by simp [hk], by simp [hk]⟩, .inl rfl⟩
        · refine .inr ⟨r, sub, { s.capture with
            triggerOffset := some s.capture.writeOffset, state := .post, postRemaining := s.capture.postCount }, hr,
            by simp [hk], ⟨rfl, by simp, fun _ => .inr htrigger.1⟩, .inr (.inr ⟨rfl, ?_⟩)⟩
          split <;> rfl
      · exact .inr ⟨r, sub, s.capture, hr, by simp [hk], ⟨rfl, by simp [hk], by simp [hk]⟩, .inr (.inl rfl)⟩
    · rename_i hk
      exact .inr ⟨r, sub, s.capture, hr, by simp [hk], ⟨rfl, by simp [hk], .inl⟩, .inr (.inr ⟨hk, rfl⟩)⟩
  · exact .inl rfl

/-- The capture's frame step keeps the law. -/
theorem State.regionLaw_captureStep {s : State} (c : FrameCtx) (h : s.regionLaw) : (s.captureStep c).regionLaw := by
  obtain e | ⟨r, sub, k, hr, hrun, hk, e⟩ := s.captureStep_cases c
  · rwa [e]
  have hregion : k.region = s.capture.region := by rw [hk.1]
  have goes : (s.setCapture k).regionLaw :=
    State.regionLaw_setCapture h hrun hregion hk.2.1 fun q _ hq => hk.runs hq
  have hr' : (s.setCapture k).captureRegion = some r := by
    rw [← hr]
    simp only [State.captureRegion, State.setCapture_capture, hregion, State.setCapture_regions]
  obtain e | e | ⟨hpost, e⟩ := e
  · rw [e]
    exact State.regionLaw_stop _ h hrun hregion fun _ _ hq => Capture.stops_of_runs (hk.runs hq)
  · exact State.regionLaw_of_store (State.regionLaw_storeFilling c sub goes hr' hk.2.1) e
  · exact State.regionLaw_of_store (State.regionLaw_storePost c sub goes hr' hk.2.1 hpost) e

/-- START CAPTURE keeps the law: it claims a READY region (R130, R136). -/
theorem State.regionLaw_startCapture {s : State} (body : List Payload) (h : s.regionLaw) :
    (takeStartCapture body s).Leaves State.regionLaw := by
  refine checked_leaves fun f _ => ?_
  split
  · trivial
  rename_i hidle
  split
  · trivial
  rename_i r hr
  split
  · trivial
  rename_i hready
  split
  · trivial
  split
  · trivial
  have hidle : s.capture.state = .idle := not_not.mp hidle
  have hready : r.use = .ready := not_not.mp hready
  obtain ⟨hpos, -⟩ := h.1 f.region r hr
  obtain ⟨-, -, -, hp⟩ := (State.regionLaw_iff).mp h
  obtain ⟨unplayed, -⟩ := (State.usedAs_ready).mp (hready ▸ State.usedAs_of_law h hr)
  have running : f.record.state ≠ .idle := by
    simp only [StartCaptureFields.record]
    split <;> simp
  have notPost : f.record.state ≠ .post := by
    simp only [StartCaptureFields.record]
    split <;> simp
  refine State.regionLaw_put h hr rfl (Nat.zero_le _) hpos ((State.usedAs_capturing).mpr ⟨unplayed, running, rfl⟩)
    (fun j w hj => State.usedAs_congr rfl ?_) (fun _ => ⟨f.region, r, rfl, hr, ?_⟩) hp
  · exact ⟨fun hf => absurd (Option.some.inj hf.2).symm hj, fun hf => absurd hidle hf.1⟩
  · exact ⟨hpos, Nat.zero_le _, rfl, rfl, fun hpost => absurd hpost notPost⟩

/-- STOP CAPTURE keeps the law (R147). -/
theorem State.regionLaw_stopCapture {s : State} (body : List Payload) (h : s.regionLaw) :
    (takeStopCapture body s).Leaves State.regionLaw := by
  refine checked_leaves fun _ _ => ?_
  dsimp only
  split
  · trivial
  · rename_i hrun
    exact State.regionLaw_stop (k := s.capture) .stopped h hrun rfl fun _ _ => Capture.stops_of_runs

/-! ## The players -/

/-- A player's record may change while the player goes on as it was, playing its region or not. -/
theorem State.regionLaw_putPlayer {s : State} {p : PlayerNo} {v : Player} (h : s.regionLaw)
    (hplaying : v.playing = (s.players.row p).playing) (hregion : v.region = (s.players.row p).region) :
    (s.putPlayer p v).regionLaw := by
  obtain ⟨-, -, hk, hp⟩ := (State.regionLaw_iff).mp h
  refine State.regionLaw_of_users h rfl (fun id w => State.usedAs_congr ?_ Iff.rfl) hk fun n => ?_
  · have counted := State.playersOf_put s (s.putPlayer p v) rfl id
    have same : v.plays id = (s.players.row p).plays id := by
      rw [Bool.eq_iff_iff, Player.plays_iff, Player.plays_iff, hplaying, hregion]
    rw [same] at counted
    omega
  · rw [State.putPlayer, State.setPlayers_players, Table.row_put]
    split
    · intro hplay
      obtain ⟨id, r, hid, hr⟩ := hp p (hplaying ▸ hplay)
      exact ⟨id, r, hregion.trans hid, hr⟩
    · exact hp n

/-- The region of a player that plays counts it among its users (R131). -/
theorem State.playing_of_law {s : State} {p : PlayerNo} (h : s.regionLaw) (hplay : (s.players.row p).playing = true) :
    ∃ id r n, (s.players.row p).region = some id ∧ s.regions.row id = some r ∧ r.use = .playing n ∧
      s.UsedAs id (.playing n) := by
  obtain ⟨-, -, -, hp⟩ := (State.regionLaw_iff).mp h
  obtain ⟨id, r, hid, hr⟩ := hp p hplay
  have hused := State.usedAs_of_law h hr
  have hpos := State.playersOf_pos ((Player.plays_iff).mpr ⟨hplay, hid⟩)
  refine ⟨id, r, r.use.users, hid, hr, ?_⟩
  cases huse : r.use with
  | ready => rw [huse] at hused; exact absurd ((State.usedAs_ready).mp hused).1 hpos.ne'
  | capturing => rw [huse] at hused; exact absurd ((State.usedAs_capturing).mp hused).1 hpos.ne'
  | playing n => exact ⟨rfl, huse ▸ hused⟩

/-- The record of a region that a player returns (R131). -/
theorem State.returnRegion_eq {s : State} {id : RegionNo} {r : Region} (hr : s.regions.row id = some r) :
    s.returnRegion (some id) = s.putRegion id (some r.release) := by
  simp only [State.returnRegion, hr, Option.map_some]

/-- The end of a player that plays keeps the law: its region has one user fewer (R131, R156, R157). -/
theorem State.regionLaw_return {s : State} {p : PlayerNo} {v : Player} (h : s.regionLaw)
    (hplay : (s.players.row p).playing = true) (hv : v.playing = false) :
    ((s.putPlayer p v).returnRegion (s.players.row p).region).regionLaw := by
  obtain ⟨-, -, hk, hp⟩ := (State.regionLaw_iff).mp h
  obtain ⟨id, r, n, hid, hr, huse, hused⟩ := State.playing_of_law h hplay
  obtain ⟨hcount, unfilled, hn⟩ := (State.usedAs_playing).mp hused
  obtain ⟨-, -, hvalid, holdest, -⟩ := h.1 id r hr
  have counted := State.playersOf_put s ((s.putPlayer p v).putRegion id (some r.release)) (p := p) (v := v) rfl
  simp only [Player.plays_eq hplay hid, Player.plays_idle hv, decide_eq_true_eq, Bool.false_eq_true, if_false,
    Nat.add_zero] at counted
  have released : r.release = { r with use := if n ≤ 1 then .ready else .playing (n - 1) } := by
    simp only [Region.release, huse]
  rw [hid, State.returnRegion_eq (s := s.putPlayer p v) hr]
  refine State.regionLaw_put h hr (congrArg (fun q => s.regions.put id (some q)) released) hvalid holdest ?_
    (fun j w hj => State.usedAs_congr ?_ Iff.rfl) hk fun m => ?_
  · have := counted id
    rw [if_pos rfl] at this
    split
    · exact (State.usedAs_ready).mpr ⟨by omega, unfilled⟩
    · exact (State.usedAs_playing).mpr ⟨by omega, unfilled, by omega⟩
  · rw [← counted j, if_neg hj, Nat.add_zero]
  · show ((s.players.put p v).row m).holds s.regions
    rw [Table.row_put]
    split
    · exact fun hplays => by rw [hv] at hplays; cases hplays
    · exact hp m

/-- A player's frame step keeps the law (R153 to R156). -/
theorem State.regionLaw_playerStep {s : State} (p : PlayerNo) (h : s.regionLaw) : (s.playerStep p).regionLaw := by
  have given : ∀ x, (s.give p x).regionLaw := fun x => State.regionLaw_congr h rfl rfl rfl
  simp only [State.playerStep]
  split
  · rename_i hplay
    split
    · exact h
    · refine iteInduction (motive := State.regionLaw) (fun _ => ?_) fun _ => ?_
      · exact State.regionLaw_congr (State.regionLaw_return (given _) hplay rfl) rfl rfl rfl
      · refine State.regionLaw_putPlayer (given _) ?_ ?_
        · simp only [Player.advance]
          split <;> rfl
        · simp only [Player.advance]
          split <;> rfl
  · exact State.regionLaw_putPlayer (given _) rfl rfl

/-- START PLAYER keeps the law: it claims its region for one user more (R131, R155). -/
theorem State.regionLaw_startPlayer {s : State} (body : List Payload) (h : s.regionLaw) :
    (takeStartPlayer body s).Leaves State.regionLaw := by
  refine checked_leaves ?_
  rintro ⟨p, id, loops⟩ -
  dsimp only
  split
  · trivial
  rename_i hidle
  split
  · trivial
  rename_i r hr
  split
  · trivial
  rename_i hcapturing
  split
  · trivial
  obtain ⟨-, -, hk, hp⟩ := (State.regionLaw_iff).mp h
  obtain ⟨-, -, hvalid, holdest, husers, hfilled, -⟩ := h.1 id r hr
  have unfilled : ¬ s.capture.fills id := fun hf => hcapturing (hfilled.mpr hf)
  have counted := fun u hu j => State.playersOf_put s u
    (p := p) (v := ⟨true, some id, 0, loops, 0, (s.players.row p).sample⟩) hu j
  simp only [Player.plays_idle (Bool.eq_false_iff.mpr hidle), Player.plays_eq (id := id), decide_eq_true_eq,
    Bool.false_eq_true, if_false, Nat.add_zero] at counted
  refine State.regionLaw_put h hr rfl hvalid holdest
    ((State.usedAs_playing).mpr ⟨(counted _ rfl id).trans ?_, unfilled, Nat.succ_ne_zero _⟩)
    (fun j w hj => State.usedAs_congr ((counted _ rfl j).trans ?_) Iff.rfl) hk fun m => ?_
  · rw [if_pos rfl, husers]
  · rw [if_neg hj, Nat.add_zero]
  · show ((s.players.put p _).row m).holds s.regions
    rw [Table.row_put]
    split
    · exact fun _ => ⟨id, r, rfl, hr⟩
    · exact hp m

/-- STOP PLAYER keeps the law (R157). -/
theorem State.regionLaw_stopPlayer {s : State} (body : List Payload) (h : s.regionLaw) :
    (takeStopPlayer body s).Leaves State.regionLaw := by
  refine checked_leaves fun p _ => ?_
  simp only [State.endPlayer, Taken.Leaves]
  split
  · rename_i hplay
    exact State.regionLaw_return h hplay rfl
  · exact h

/-! ## The law is kept -/

/-- RESET FULL leaves the capture IDLE (R150). -/
theorem Capture.fullReset_state (k : Capture) : k.fullReset.state = .idle := by
  simp only [Capture.fullReset]
  split <;> rfl

/-- With no region defined and nothing running the law holds. -/
theorem State.regionLaw_reset {s : State} (hregs : s.regions = Table.tab fun _ => none)
    (hcap : s.capture.state = .idle) (hplay : s.players = Table.tab fun _ => Player.reset) : s.regionLaw := by
  refine (State.regionLaw_iff).mpr ⟨fun id r hr => ?_, fun a b _ r q hr => ?_, fun hn => absurd hcap hn, fun p hp => ?_⟩
  · rw [hregs, Table.row_tab] at hr
    cases hr
  · rw [hregs, Table.row_tab] at hr
    cases hr
  · rw [hplay, Table.row_tab] at hp
    cases hp

/-- The law is kept by every operation that a step is made of. -/
theorem State.regionLaw_store : StoreLaw State.regionLaw where
  congr := State.regionLaw_of_store
  take q s h := by
    obtain left | e | e | e | e | e | e | e := q.take_cases s
    · cases ht : q.take s with
      | refused | fenced => trivial
      | done t | deferred t =>
        rw [ht] at left
        exact State.regionLaw_of_store h left
    all_goals rw [e]
    · exact State.regionLaw_define _ h
    · exact State.regionLaw_release _ h
    · exact State.regionLaw_write _ h
    · exact State.regionLaw_startCapture _ h
    · exact State.regionLaw_stopCapture _ h
    · exact State.regionLaw_startPlayer _ h
    · exact State.regionLaw_stopPlayer _ h
  player p _ h := State.regionLaw_playerStep p h
  capture c _ h := State.regionLaw_captureStep c h
  fullReset {s} _ := by
    rw [State.fullReset_eq]
    exact State.regionLaw_reset rfl s.capture.fullReset_state rfl
  pinReset _ := State.regionLaw_reset rfl rfl rfl

/-- Settles O10: the law of the regions is a law of the sample store. -/
theorem regionLawIsKept : Obligations.RegionLawIsKept :=
  fun _ _ h hstep => State.regionLaw_store.kept.step h hstep

end Sys2Proof.Machine
end

section
/-! DEFINE, RELEASE and WRITE REGION, START and STOP PLAYER, taken at once (R120 to R127, R131, R155, R157). -/

namespace Sys2Proof.Machine

open BitVec (extractLsb'_append_eq_of_le extractLsb'_append_eq_of_add_le)

/-! ## Words written one after another -/

/-- A WRITE REGION leaves every word outside its run of offsets (R126). -/
theorem Region.read_writeAll_other (r : Region) (xs : List Sample) (a : Nat) : ∀ (m : Memory) (offset : Nat),
    r.base + offset + xs.length ≤ 8192 → a < r.base + offset ∨ r.base + offset + xs.length ≤ a →
      (r.writeAll m offset xs).read a = m.read a := by
  induction xs with
  | nil => exact fun _ _ _ _ => rfl
  | cons x xs ih =>
    intro m offset hin ha
    rw [List.length_cons] at hin ha
    have place : r.address offset = r.base + offset := Region.address_of_lt (by omega)
    rw [Region.writeAll, ih _ _ (by omega) (by omega), place, Memory.read_write_other _ _ _ _ (by omega)]

/-- A WRITE REGION's samples stand at consecutive offsets (R126). -/
theorem Region.read_writeAll (r : Region) (xs : List Sample) : ∀ (m : Memory) (offset i : Nat) (x : Sample),
    r.base + offset + xs.length ≤ 8192 → xs[i]? = some x →
      (r.writeAll m offset xs).read (r.base + offset + i) = some x := by
  induction xs with
  | nil => exact fun _ _ _ _ _ hx => by cases hx
  | cons y xs ih =>
    intro m offset i x hin hx
    rw [List.length_cons] at hin
    cases i with
    | zero =>
      obtain rfl := Option.some.inj hx
      have place : r.address offset = r.base + offset := Region.address_of_lt (by omega)
      rw [Region.writeAll, Region.read_writeAll_other r xs _ _ _ (by omega) (by omega), Nat.add_zero, place,
        Memory.read_write_same]
    | succ i =>
      rw [Region.writeAll, ← ih (m.write (r.address offset) y) (offset + 1) i x (by omega) hx]
      congr 1
      omega

/-! ## The region requests -/

section
variable {s : State} {body : List Payload} {id : RegionNo} {q : Region}

/-- RELEASE REGION of an UNDEFINED region (R125). -/
theorem takeReleaseRegion_undefined (hb : readRegionId body = some id) (hid : s.regions.row id = none) :
    takeReleaseRegion body s = .refused .regionUndefined := by
  simp only [takeReleaseRegion, checked_some hb, hid]

/-- RELEASE REGION of a defined region: it must be READY (R125). -/
theorem takeReleaseRegion_defined (hb : readRegionId body = some id) (hq : s.regions.row id = some q) :
    takeReleaseRegion body s =
      if q.use = .ready then .done (s.putRegion id none) [id ++ 0#21] else .refused .regionBusy := by
  simp only [takeReleaseRegion, checked_some hb, hq]

variable {offset : Nat} {xs : List Sample} (hb : readWriteRegion body = some (id, offset, xs))
include hb

/-- WRITE REGION to an UNDEFINED region (R126). -/
theorem takeWriteRegion_undefined (hid : s.regions.row id = none) :
    takeWriteRegion body s = .refused .regionUndefined := by
  simp only [takeWriteRegion, checked_some hb, hid]

/-- WRITE REGION to a defined region: it must be READY and hold the last word (R126, R127). -/
theorem takeWriteRegion_defined (hq : s.regions.row id = some q) : takeWriteRegion body s =
    if q.use ≠ .ready then .refused .regionBusy
    else if q.length < offset + xs.length then .refused .outOfRegion
    else .done ((s.setMemory (q.writeAll s.memory offset xs)).putRegion id
        (some { q with valid := max q.valid (offset + xs.length), oldest := 0 }))
      [id ++ 0#7 ++ BitVec.ofNat 14 (max q.valid (offset + xs.length)), 0] := by
  simp only [takeWriteRegion, checked_some hb, hq]
  rfl

end

/-- Settles O57: each request taken at once, check by check. -/
theorem regionRequests : Obligations.RegionRequests := by
  rintro s ⟨tag, res, body⟩ (rfl : res = false) htake
  refine ⟨fun id base length hb => ⟨fun hid => ?_, fun hid hover => ?_, fun hid hover => ?_⟩,
    fun id hb => ⟨fun hid => ?_, fun q hq huse => ?_, fun q hq huse => ?_⟩,
    fun id offset xs hb => ⟨fun hid => ?_, fun q hq => ⟨fun huse => ?_, fun huse hlen => ?_, fun huse hlen hmem => ?_⟩⟩⟩
  · have defined : (s.regions.row id).isSome = true := Option.isSome_iff_ne_none.mpr hid
    exact congrArg Host.Outcome.next (State.deliver_refused htake (by decide) ((checked_some hb).trans (if_pos defined)))
  · have undefined : ¬ (s.regions.row id).isSome = true := by simp [hid]
    exact congrArg Host.Outcome.next (State.deliver_refused htake (by decide)
      ((checked_some hb).trans ((if_neg undefined).trans (if_pos ((any_overlaps_iff).mpr hover)))))
  · have undefined : ¬ (s.regions.row id).isSome = true := by simp [hid]
    exact congrArg Host.Outcome.next (State.deliver_done (u := s.putRegion id (some ⟨base, length, 0, 0, .ready⟩))
      htake (by decide)
      ((checked_some hb).trans ((if_neg undefined).trans (if_neg fun h => hover ((any_overlaps_iff).mp h)))) rfl)
  · exact congrArg Host.Outcome.next (State.deliver_refused htake (by decide)
      (takeReleaseRegion_undefined (s := s.reserved tag 20) hb hid))
  · exact congrArg Host.Outcome.next (State.deliver_refused htake (by decide)
      ((takeReleaseRegion_defined (s := s.reserved tag 20) hb hq).trans (if_neg huse)))
  · exact congrArg Host.Outcome.next (State.deliver_done (u := s.putRegion id none) htake (by decide)
      ((takeReleaseRegion_defined (s := s.reserved tag 20) hb hq).trans (if_pos huse)) rfl)
  · exact congrArg Host.Outcome.next (State.deliver_refused htake (by decide)
      (takeWriteRegion_undefined (s := s.reserved tag 21) hb hid))
  · exact congrArg Host.Outcome.next (State.deliver_refused htake (by decide)
      ((takeWriteRegion_defined (s := s.reserved tag 21) hb hq).trans (if_pos huse)))
  · exact congrArg Host.Outcome.next (State.deliver_refused htake (by decide)
      ((takeWriteRegion_defined (s := s.reserved tag 21) hb hq).trans
        ((if_neg (not_not.mpr huse)).trans (if_pos hlen))))
  · refine ⟨q.writeAll s.memory offset xs, congrArg Host.Outcome.next (State.deliver_done
      (u := (s.setMemory (q.writeAll s.memory offset xs)).putRegion id
        (some { q with valid := max q.valid (offset + xs.length), oldest := 0 })) htake (by decide)
      ((takeWriteRegion_defined (s := s.reserved tag 21) hb hq).trans
        ((if_neg (not_not.mpr huse)).trans (if_neg (not_lt.mpr hlen)))) rfl), fun i x hx => ?_, fun a ha => ?_⟩
    · simp only [State.word, State.setMemory_memory, Region.read_writeAll q xs _ offset i x (by omega) hx,
        Option.getD_some]
    · simp only [State.word, State.setMemory_memory, State.setMemory_powerUps,
        Region.read_writeAll_other q xs a _ offset (by omega) ha]

/-! ## The player requests -/

/-- The bits of a player record's first word (R185, R187). -/
theorem playerHead_bits (p : PlayerNo) (v : Player) (was : Bool) :
    (playerHead p v was).getLsbD 8 = was ∧ fld (playerHead p v was) 23 1 = p ∧
      (playerHead p v was).getLsbD 22 = v.playing ∧ (playerHead p v was).getLsbD 21 = v.region.isSome ∧
      fld (playerHead p v was) 18 3 = v.region.getD 0 ∧ fld (playerHead p v was) 0 8 = v.loops ∧
      fld (playerHead p v was) 9 9 = 0 := by
  simp +contextual [-Nat.reduceAdd, -BitVec.getLsbD_eq_getElem, playerHead, fld, bit, BitVec.getLsbD_append,
    extractLsb'_append_eq_of_le, extractLsb'_append_eq_of_add_le]

/-- The bits of a 16-bit count in a payload (R182). -/
theorem low16_bits (x : BitVec 16) : fld (low16 x) 16 8 = 0 ∧ fld (low16 x) 0 16 = x := by
  simp [-Nat.reduceAdd, fld, low16, extractLsb'_append_eq_of_le, extractLsb'_append_eq_of_add_le]

/-- The bits of a 13-bit count in a payload (R182). -/
theorem low13_bits (n : Nat) : fld (low13 n) 13 11 = 0 ∧ fld (low13 n) 0 13 = BitVec.ofNat 13 n := by
  simp [-Nat.reduceAdd, fld, low13, extractLsb'_append_eq_of_le, extractLsb'_append_eq_of_add_le]

section
variable {s : State} {body : List Payload} {p : PlayerNo} {id : RegionNo} {loops : BitVec 8} {q : Region}

/-- START PLAYER of a PLAYING player (R155). -/
theorem takeStartPlayer_busy (hb : readStartPlayer body = some (p, id, loops))
    (hp : (s.players.row p).playing = true) : takeStartPlayer body s = .refused .playerBusy := by
  simp only [takeStartPlayer, checked_some hb, hp, if_true]

/-- START PLAYER on an UNDEFINED region (R155). -/
theorem takeStartPlayer_undefined (hb : readStartPlayer body = some (p, id, loops))
    (hp : (s.players.row p).playing = false) (hid : s.regions.row id = none) :
    takeStartPlayer body s = .refused .regionBusy := by
  simp only [takeStartPlayer, checked_some hb, hp, hid, Bool.false_eq_true, if_false]

/-- START PLAYER on a defined region: it must not be CAPTURING, and must have valid data (R155). -/
theorem takeStartPlayer_defined (hb : readStartPlayer body = some (p, id, loops))
    (hp : (s.players.row p).playing = false) (hq : s.regions.row id = some q) : takeStartPlayer body s =
      if q.use = .capturing then .refused .regionBusy
      else if q.valid = 0 then .refused .emptyRegion
      else .done ((s.putRegion id (some q.claim)).putPlayer p ⟨true, some id, 0, loops, 0, (s.players.row p).sample⟩)
        (Player.words p ⟨true, some id, 0, loops, 0, (s.players.row p).sample⟩ ++ [low14 q.valid]) := by
  simp only [takeStartPlayer, checked_some hb, hp, hq, Bool.false_eq_true, if_false]

/-- An IDLE player is left as it is (R157). -/
theorem takeStopPlayer_idle (hb : readPlayerNo body = some p) (hp : (s.players.row p).playing = false) :
    takeStopPlayer body s = .done s ((s.players.row p).stopWords p false) := by
  have same : s.endPlayer p = s := by simp only [State.endPlayer, hp, Bool.false_eq_true, if_false]
  rw [takeStopPlayer, checked_some hb]
  dsimp only
  rw [same, hp]

/-- The record of a player that STOP PLAYER has ended where it stood (R157). -/
def Player.stopped (v : Player) : Player := { v with playing := false, sample := 0 }

/-- A PLAYING player ends where it stands and gives its region back (R131, R157). -/
theorem takeStopPlayer_playing (hb : readPlayerNo body = some p) (hp : (s.players.row p).playing = true)
    (hid : (s.players.row p).region = some id) (hq : s.regions.row id = some q) : takeStopPlayer body s =
      .done ((s.putPlayer p (s.players.row p).stopped).putRegion id (some q.release))
        ((s.players.row p).stopped.stopWords p true) := by
  have ended : s.endPlayer p = (s.putPlayer p (s.players.row p).stopped).putRegion id (some q.release) :=
    calc s.endPlayer p
      _ = (s.putPlayer p (s.players.row p).stopped).returnRegion (s.players.row p).region := if_pos hp
      _ = (s.putPlayer p (s.players.row p).stopped).returnRegion (some id) := congrArg (State.returnRegion _) hid
      _ = _ := State.returnRegion_eq hq
  have row : ((s.putPlayer p (s.players.row p).stopped).putRegion id (some q.release)).players.row p =
      (s.players.row p).stopped := (Table.row_put _ _ _ _).trans (if_pos rfl)
  rw [takeStopPlayer, checked_some hb]
  dsimp only
  rw [ended, row, hp]

end

/-- Settles O59: each request taken at once, check by check, and the words of a stop's reply bit by bit. -/
theorem playerRequests : Obligations.PlayerRequests := by
  rintro s ⟨tag, res, body⟩ (rfl : res = false) htake
  refine ⟨fun p id loops hb => ⟨fun hp => ?_, fun hp => ⟨fun hid => ?_, fun q hq =>
    ⟨fun huse => ?_, fun huse hvalid => ?_, fun huse hvalid => ?_⟩⟩⟩, fun p hb => ⟨fun hp => ?_, fun id q hp hid hq => ?_⟩⟩
  · exact congrArg Host.Outcome.next (State.deliver_refused htake (by decide)
      (takeStartPlayer_busy (s := s.reserved tag 27) hb hp))
  · exact congrArg Host.Outcome.next (State.deliver_refused htake (by decide)
      (takeStartPlayer_undefined (s := s.reserved tag 27) hb hp hid))
  · exact congrArg Host.Outcome.next (State.deliver_refused htake (by decide)
      ((takeStartPlayer_defined (s := s.reserved tag 27) hb hp hq).trans (if_pos huse)))
  · exact congrArg Host.Outcome.next (State.deliver_refused htake (by decide)
      ((takeStartPlayer_defined (s := s.reserved tag 27) hb hp hq).trans ((if_neg huse).trans (if_pos hvalid))))
  · exact congrArg Host.Outcome.next (State.deliver_done
      (u := (s.putRegion id (some q.claim)).putPlayer p ⟨true, some id, 0, loops, 0, (s.players.row p).sample⟩)
      htake (by decide)
      ((takeStartPlayer_defined (s := s.reserved tag 27) hb hp hq).trans ((if_neg huse).trans (if_neg hvalid))) rfl)
  · obtain ⟨was, num, playing, named, region, loops, zeros⟩ := playerHead_bits p (s.players.row p) false
    obtain ⟨high, passes⟩ := low16_bits (s.players.row p).passes
    obtain ⟨top, position⟩ := low13_bits (s.players.row p).position
    exact ⟨_, _, _, congrArg Host.Outcome.next (State.deliver_done (u := s) htake (by decide)
        (takeStopPlayer_idle (s := s.reserved tag 28) hb hp) rfl),
      was, num, playing.trans hp, named, region, loops, zeros, high, top, passes, position⟩
  · obtain ⟨was, num, playing, named, region, loops, zeros⟩ := playerHead_bits p (s.players.row p).stopped true
    obtain ⟨high, passes⟩ := low16_bits (s.players.row p).passes
    obtain ⟨top, position⟩ := low13_bits (s.players.row p).position
    refine ⟨_, _, _, q.release, congrArg Host.Outcome.next (State.deliver_done
        (u := (s.putPlayer p (s.players.row p).stopped).putRegion id (some q.release)) htake (by decide)
        (takeStopPlayer_playing (s := s.reserved tag 28) hb hp hid hq) rfl), fun n hn => ?_,
      was, num, playing, named.trans (congrArg Option.isSome hid), region.trans (congrArg (Option.getD · 0) hid),
      zeros, high, top, loops, passes, position⟩
    simp only [Region.release, hn]

end Sys2Proof.Machine
end

section
/-! The Capture Unit's frame step: a store, a stop, a trigger taken, and the commands of a stop (R138 to R148). -/

namespace Sys2Proof.Machine

/-! ## The record after a store -/

/-- The write offset that follows in a region of `n` words which a RING capture fills (R140). -/
def Capture.ringNext (k : Capture) (n : Nat) : Nat := if k.writeOffset + 1 = n then 0 else k.writeOffset + 1

/-- The record after a store that leaves the write offset at `offset` (R139, R140, R141). -/
def Capture.storedAt (k : Capture) (c : FrameCtx) (r : Region) (now : FrameNo) (offset : Nat) : Capture :=
  { k.stored c r now with writeOffset := offset }

/-- The record of a RING capture after a store in POST (R145). -/
def Capture.storedPost (k : Capture) (c : FrameCtx) (r : Region) (now : FrameNo) : Capture :=
  { k.storedAt c r now (k.ringNext r.length) with postRemaining := k.postRemaining - 1 }

/-- The record with which an ARMED capture comes to its trigger frame's store (R143). -/
def Capture.started (k : Capture) : Capture := { k with state := .filling, triggerOffset := some k.writeOffset }

/-- The record with which a RING capture comes to its trigger frame's store (R144). -/
def Capture.entered (k : Capture) : Capture :=
  { k with triggerOffset := some k.writeOffset, state := .post, postRemaining := k.postCount }

/-- The record of an ONCE capture that has stored its trigger frame's sample (R143). -/
def Capture.firstStored (k : Capture) (now : FrameNo) : Capture :=
  { k with state := .filling, triggerOffset := some 0, writeOffset := 1, written := 1, startFrame := some now }

/-- The record of a RING capture that has stored its trigger frame's sample, the first after the trigger (R144). -/
def Capture.firstPost (k : Capture) (r : Region) (now : FrameNo) : Capture :=
  { k with
    state := .post, triggerOffset := some k.writeOffset, postRemaining := k.postCount - 1
    writeOffset := k.ringNext r.length, written := min r.length (k.written + 1)
    startFrame := if k.written = 0 then some now else k.startFrame }

section
variable {k : Capture} (c : FrameCtx) (r : Region) (now : FrameNo)

/-- The write offset of an ONCE capture goes on (R139). -/
theorem Capture.stored_once (h : k.mode = some .once) :
    k.stored c r now = k.storedAt c r now (k.writeOffset + 1) := by
  simp [Capture.storedAt, Capture.stored, h]

/-- The write offset of a RING capture wraps at the length (R140). -/
theorem Capture.stored_ring (h : k.mode = some .ring) :
    k.stored c r now = k.storedAt c r now (k.ringNext r.length) := by
  simp [Capture.storedAt, Capture.ringNext, Capture.stored, h]

/-- A store at a frame arrival counts no held frame (R141). -/
theorem Capture.storedAt_arrival (hkind : c.kind = .arrival) (offset : Nat) : k.storedAt c r now offset = { k with
    writeOffset := offset, written := min r.length (k.written + 1)
    startFrame := if k.written = 0 then some now else k.startFrame } := by
  simp [Capture.storedAt, Capture.stored, hkind]

/-- The trigger frame's store is the first of an ARMED capture (R143). -/
theorem Capture.started_storedAt (hkind : c.kind = .arrival) (hlen : 1 ≤ r.length) (h0 : k.writeOffset = 0)
    (hw : k.written = 0) : k.started.storedAt c r now (k.started.writeOffset + 1) = k.firstStored now := by
  rw [Capture.storedAt_arrival c r now hkind]
  simp [Capture.started, Capture.firstStored, h0, hw, hlen]

/-- The trigger frame's store is the first in POST (R144). -/
theorem Capture.entered_storedPost (hkind : c.kind = .arrival) :
    k.entered.storedPost c r now = k.firstPost r now := by
  rw [Capture.storedPost, Capture.storedAt_arrival c r now hkind]
  rfl

end

/-- An ONCE capture has its oldest sample at offset 0 (R146). -/
theorem Capture.oldestAtStop_once {k : Capture} (n : Nat) (h : k.mode = some .once) : k.oldestAtStop n = 0 := by
  simp [Capture.oldestAtStop, h]

/-- A RING capture that has filled its region has its oldest sample at the write offset (R146). -/
theorem Capture.oldestAtStop_ring {k : Capture} (n : Nat) (h : k.mode = some .ring) :
    k.oldestAtStop n = if k.written = n then k.writeOffset else 0 := by
  simp [Capture.oldestAtStop, h]

/-! ## The machine after a store and after a stop -/

/-- The machine after a store that leaves the capture record `k` (R138, R139). -/
def State.storing (s : State) (c : FrameCtx) (r : Region) (sub : Subject) (k : Capture) : State :=
  (s.setMemory (s.memory.write (r.address s.capture.writeOffset) (c.value sub))).setCapture k

/-- The machine after the stop of its capture in region `id` of record `r`, the region given its oldest offset (R130,
R146). -/
def State.stopping (s : State) (id : RegionNo) (r : Region) (oldest : Nat) (reason : EndReason) : State := { s with
  capture := { s.capture with state := .idle, endReason := some reason }
  regions := s.regions.put id (some { r with use := .ready, valid := s.capture.written, oldest := oldest })
  notices := s.notices.post (.captureState s.now
    (Capture.report { s.capture with state := .idle, endReason := some reason } s.capture.written oldest)) }

/-- The stop of a capture in the region that its record names (R130, R146). -/
theorem State.stopCapture_stopping {s : State} {id : RegionNo} {r : Region} {oldest : Nat}
    (hid : s.capture.region = some id) (hr : s.regions.row id = some r) (ho : s.capture.oldestAtStop r.length = oldest)
    (reason : EndReason) : s.stopCapture reason = s.stopping id r oldest reason := by
  subst ho
  exact State.stopCapture_eq hid hr reason

section
variable (s : State) (c : FrameCtx) (r : Region) (sub : Subject)

/-- A store in FILLING of an ONCE capture, which stops at the length (R139). -/
theorem State.storeFilling_once (h : s.capture.mode = some .once) : s.storeFilling c r sub =
    if s.capture.writeOffset + 1 = r.length then
      (s.storing c r sub (s.capture.storedAt c r s.now (s.capture.writeOffset + 1))).stopCapture .full
    else s.storing c r sub (s.capture.storedAt c r s.now (s.capture.writeOffset + 1)) := by
  simp only [State.storeFilling, State.store_eq, Capture.stored_once c r s.now h, State.setCapture_capture]
  exact ite_congr (propext (and_iff_right h)) (fun _ => rfl) fun _ => rfl

/-- A store in FILLING of a RING capture, which never stops (R140). -/
theorem State.storeFilling_ring (h : s.capture.mode = some .ring) : s.storeFilling c r sub =
    s.storing c r sub (s.capture.storedAt c r s.now (s.capture.ringNext r.length)) := by
  simp only [State.storeFilling, State.store_eq, Capture.stored_ring c r s.now h, State.setCapture_capture]
  exact if_neg fun hfull => by cases h.symm.trans hfull.1

/-- A store in POST of a RING capture, which stops once post remaining is 0 (R145). -/
theorem State.storePost_ring (h : s.capture.mode = some .ring) : s.storePost c r sub =
    if s.capture.postRemaining - 1 = 0 then
      (s.storing c r sub (s.capture.storedPost c r s.now)).stopCapture .postDone
    else s.storing c r sub (s.capture.storedPost c r s.now) := by
  simp only [State.storePost, State.store_eq, Capture.stored_ring c r s.now h]
  rfl

/-- A store in FILLING writes one word, whether it stops the capture or not. -/
theorem State.storeFilling_memory : (s.storeFilling c r sub).memory =
    s.memory.write (r.address s.capture.writeOffset) (c.value sub) := by
  simp only [State.storeFilling]
  split
  · exact State.stopCapture_memory _ _
  · rfl

/-- A store in POST writes one word, whether it stops the capture or not. -/
theorem State.storePost_memory : (s.storePost c r sub).memory =
    s.memory.write (r.address s.capture.writeOffset) (c.value sub) := by
  simp only [State.storePost]
  split
  · exact State.stopCapture_memory _ _
  · rfl

end

section
variable {s : State} (c : FrameCtx) {id : RegionNo} {r : Region} (sub : Subject)
  (hid : s.capture.region = some id) (hr : s.regions.row id = some r)
include hid hr

/-- The store with which an ONCE capture has filled its region (R139, R146). -/
theorem State.storeFilling_full (hm : s.capture.mode = some .once) (hfull : s.capture.writeOffset + 1 = r.length) :
    s.storeFilling c r sub =
      (s.storing c r sub (s.capture.storedAt c r s.now (s.capture.writeOffset + 1))).stopping id r 0 .full := by
  rw [State.storeFilling_once s c r sub hm, if_pos hfull]
  exact State.stopCapture_stopping
    (s := s.storing c r sub (s.capture.storedAt c r s.now (s.capture.writeOffset + 1))) hid hr
    (Capture.oldestAtStop_once _ hm) _

/-- The last store in POST (R145, R146). -/
theorem State.storePost_last (hm : s.capture.mode = some .ring) (hlast : s.capture.postRemaining = 1) :
    s.storePost c r sub = (s.storing c r sub (s.capture.storedPost c r s.now)).stopping id r
      (if min r.length (s.capture.written + 1) = r.length then s.capture.ringNext r.length else 0) .postDone := by
  rw [State.storePost_ring s c r sub hm, if_pos (by rw [hlast])]
  exact State.stopCapture_stopping (s := s.storing c r sub (s.capture.storedPost c r s.now)) hid hr
    (Capture.oldestAtStop_ring _ hm) _

end

/-! ## The frame step, state by state -/

/-- The posting of an entry that the trigger frame's own store has left standing (R148, assumption 25). -/
def State.noteCaptureEntry (s : State) (st : CaptureState) : State :=
  if s.capture.state = st then s.postCapture else s

/-- The posting of an entry writes no word. -/
theorem State.noteCaptureEntry_memory (s : State) (st : CaptureState) :
    (s.noteCaptureEntry st).memory = s.memory := by
  simp only [State.noteCaptureEntry]
  split <;> rfl

/-- A trigger handed over is one of the watch that the capture waits on, at a frame arrival (R142). -/
theorem Capture.triggered_iff {k : Capture} {c : FrameCtx} : k.triggered c = true ↔
    ∃ w, k.trigger = some (.watch w) ∧ c.kind = .arrival ∧ w ∈ c.alerts := by
  unfold Capture.triggered
  split
  · rename_i w hw
    simp [hw]
  · rename_i hnone
    exact ⟨fun h => (Bool.false_ne_true h).elim, fun ⟨w, hw, _⟩ => (hnone w hw).elim⟩

section
variable {s : State} {c : FrameCtx} {r : Region} {sub : Subject} (hreg : s.captureRegion = some r)
  (hsub : s.capture.subject = some sub)
include hreg hsub

/-- ARMED without its trigger (R143). -/
theorem State.captureStep_waits (hst : s.capture.state = .armed) (ht : s.capture.triggered c = false) :
    s.captureStep c = s := by
  simp [State.captureStep, hreg, hsub, hst, ht]

/-- ARMED with its trigger (R143, R148). -/
theorem State.captureStep_starts (hst : s.capture.state = .armed) (ht : s.capture.triggered c = true) :
    s.captureStep c = ((s.setCapture s.capture.started).storeFilling c r sub).noteCaptureEntry .filling := by
  simp only [State.captureStep, State.noteCaptureEntry, Capture.started, hreg, hsub, hst, ht, if_true]

/-- FILLING, but for a RING capture at its trigger (R139, R140). -/
theorem State.captureStep_fills (hst : s.capture.state = .filling)
    (h : ¬ (s.capture.mode = some .ring ∧ s.capture.triggered c = true)) :
    s.captureStep c = s.storeFilling c r sub := by
  simp only [State.captureStep, hreg, hsub, hst, if_neg h]

/-- FILLING of an ONCE capture, whatever is handed over (R139). -/
theorem State.captureStep_fillsOnce (hst : s.capture.state = .filling) (hm : s.capture.mode = some .once) :
    s.captureStep c = s.storeFilling c r sub :=
  State.captureStep_fills hreg hsub hst fun h => by cases hm.symm.trans h.1

/-- A RING capture in FILLING at its trigger, nothing to be stored after it (R144). -/
theorem State.captureStep_stopsAtTrigger (hst : s.capture.state = .filling) (hm : s.capture.mode = some .ring)
    (ht : s.capture.triggered c = true) (h0 : s.capture.postCount = 0) : s.captureStep c =
      (s.setCapture { s.capture with triggerOffset := some s.capture.writeOffset }).stopCapture .postDone := by
  simp only [State.captureStep, hreg, hsub, hst, hm, ht, h0, and_self, if_true]

/-- A RING capture in FILLING at its trigger, the frame's sample the first after it (R144, R148). -/
theorem State.captureStep_entersPost (hst : s.capture.state = .filling) (hm : s.capture.mode = some .ring)
    (ht : s.capture.triggered c = true) (h0 : s.capture.postCount ≠ 0) : s.captureStep c =
      ((s.setCapture s.capture.entered).storePost c r sub).noteCaptureEntry .post := by
  simp only [State.captureStep, State.noteCaptureEntry, Capture.entered, hreg, hsub, hst, hm, ht, h0, and_self,
    if_true, if_false]

/-- POST, with or without a trigger (R145). -/
theorem State.captureStep_post (hst : s.capture.state = .post) : s.captureStep c = s.storePost c r sub := by
  simp only [State.captureStep, hreg, hsub, hst]

end

/-! ## A stop taken by its own command -/

/-- A stop that the capture's part of the open event brings leaves the event without that part (R146). -/
theorem State.takeDue_stop {s : State} {c : FrameCtx} {id : RegionNo} {r : Region} {sub : Subject} {k : Capture}
    {oldest : Nat} {reason : EndReason} (h : s.atPhase c .capture) (hrun : s.capture.state ≠ .idle)
    (step : ∀ f todo, (s.setFrame f).captureStep { c with todo := todo } =
      ((s.setFrame f).storing c r sub k).stopping id r oldest reason) :
    s.takeDue .capture (stopDue reason) =
      ((s.storing c r sub k).stopping id r oldest reason).setFrame (c.without .capture) := by
  obtain ⟨hs, hp, hq⟩ := h
  have here : s.captureStep c = (s.storing c r sub k).stopping id r oldest reason := step s.frame c.todo
  have due : stopDue reason s c = true := by simp [stopDue, here, hrun, State.stopping]
  have run : (s.setFrame (some { c with todo := c.todo.erase .capture })).runPhase .capture =
      ((s.storing c r sub k).stopping id r oldest reason).setFrame (some { c with todo := c.todo.erase .capture }) :=
    step _ _
  rw [State.takeDue_of_ready hs hp hq due, run, State.closeEvent_eq (State.setFrame_frame _ _)]
  rfl

section
variable {s : State} {c : FrameCtx} {id : RegionNo} {r : Region} {sub : Subject}
  (hid : s.capture.region = some id) (hr : s.regions.row id = some r) (hsub : s.capture.subject = some sub)
  (hat : s.atPhase c .capture)
include hid hr hsub hat

/-- CAPTURE_FULL at its part of the open event (R139, R146). -/
theorem exec_captureFull (hst : s.capture.state = .filling) (hm : s.capture.mode = some .once)
    (hfull : s.capture.writeOffset + 1 = r.length) : exec .captureFull s = .next
      (((s.storing c r sub (s.capture.storedAt c r s.now (s.capture.writeOffset + 1))).stopping id r 0
        .full).setFrame (c.without .capture)) := by
  refine congrArg Host.Outcome.next (State.takeDue_stop hat (by simp [hst]) fun f todo => ?_)
  rw [State.captureStep_fillsOnce (State.captureRegion_eq (s := s.setFrame f) hid hr) hsub hst hm]
  exact State.storeFilling_full (s := s.setFrame f) _ _ hid hr hm hfull

/-- CAPTURE_POST_DONE at its part of the open event (R145, R146). -/
theorem exec_capturePostDone (hst : s.capture.state = .post) (hm : s.capture.mode = some .ring)
    (hlast : s.capture.postRemaining = 1) : exec .capturePostDone s = .next
      (((s.storing c r sub (s.capture.storedPost c r s.now)).stopping id r
        (if min r.length (s.capture.written + 1) = r.length then s.capture.ringNext r.length else 0)
        .postDone).setFrame (c.without .capture)) := by
  refine congrArg Host.Outcome.next (State.takeDue_stop hat (by simp [hst]) fun f todo => ?_)
  rw [State.captureStep_post (State.captureRegion_eq (s := s.setFrame f) hid hr) hsub hst]
  exact State.storePost_last (s := s.setFrame f) _ _ hid hr hm hlast

end

/-- Settles O43: a store of each state and mode, and each command of a stop. -/
theorem captureStores : Obligations.CaptureStores := by
  refine ⟨fun _ _ _ => rfl, ?_⟩
  intro s c id r sub hid hr hsub hquiet
  have quiet : s.capture.triggered c = false := Bool.eq_false_iff.mpr fun ht => by
    obtain ⟨w, hw, hkind, halert⟩ := (Capture.triggered_iff).mp ht
    exact hquiet w hw hkind halert
  have hreg := State.captureRegion_eq hid hr
  refine ⟨fun hst => ?_, fun hst hm hlen => ?_, fun hst hm => ?_, fun hst hm hrem => ?_, fun hst hm hfull hat => ?_,
    fun hst hm hlast hat => ?_⟩
  · exact State.captureStep_waits hreg hsub hst quiet
  · rw [State.captureStep_fillsOnce hreg hsub hst hm, State.storeFilling_once s c r sub hm, if_neg hlen.ne]
    rfl
  · rw [State.captureStep_fills hreg hsub hst (by simp [quiet]), State.storeFilling_ring s c r sub hm]
    rfl
  · rw [State.captureStep_post hreg hsub hst, State.storePost_ring s c r sub hm, if_neg (by omega)]
    rfl
  · exact ⟨_, exec_captureFull hid hr hsub hat hst hm hfull, rfl, rfl, rfl, rfl, rfl⟩
  · have done : s.capture.storedPost c r s.now =
        { s.capture.storedAt c r s.now (s.capture.ringNext r.length) with postRemaining := 0 } := by
      rw [Capture.storedPost, hlast]
    have stop := exec_capturePostDone hid hr hsub hat hst hm hlast
    rw [done] at stop
    exact ⟨_, stop, rfl, rfl, rfl, rfl, rfl⟩

/-! ## A trigger taken -/

section
variable {s : State} {c : FrameCtx} {id : RegionNo} {r : Region} {sub : Subject}
  (hid : s.capture.region = some id) (hr : s.regions.row id = some r) (hsub : s.capture.subject = some sub)
  (hkind : c.kind = .arrival) (ht : s.capture.triggered c = true)
include hid hr hsub ht

/-- ARMED at its trigger stores the frame's sample (R143). -/
theorem State.captureStep_starts_memory (hst : s.capture.state = .armed) : (s.captureStep c).memory =
    s.memory.write (r.address s.capture.writeOffset) (c.value sub) := by
  rw [State.captureStep_starts (State.captureRegion_eq hid hr) hsub hst ht, State.noteCaptureEntry_memory]
  exact State.storeFilling_memory _ c r sub

/-- A RING capture with samples to come after its trigger stores the frame's sample (R144). -/
theorem State.captureStep_entersPost_memory (hst : s.capture.state = .filling) (hm : s.capture.mode = some .ring)
    (h0 : s.capture.postCount ≠ 0) : (s.captureStep c).memory =
      s.memory.write (r.address s.capture.writeOffset) (c.value sub) := by
  rw [State.captureStep_entersPost (State.captureRegion_eq hid hr) hsub hst hm ht h0,
    State.noteCaptureEntry_memory]
  exact State.storePost_memory _ c r sub

/-- A RING capture that stores nothing after its trigger (R144, R146). -/
theorem State.captureStep_stoppedAtTrigger (hst : s.capture.state = .filling) (hm : s.capture.mode = some .ring)
    (h0 : s.capture.postCount = 0) : s.captureStep c =
      (s.setCapture { s.capture with triggerOffset := some s.capture.writeOffset }).stopping id r
        (if s.capture.written = r.length then s.capture.writeOffset else 0) .postDone := by
  rw [State.captureStep_stopsAtTrigger (State.captureRegion_eq hid hr) hsub hst hm ht h0]
  exact State.stopCapture_stopping
    (s := s.setCapture { s.capture with triggerOffset := some s.capture.writeOffset }) hid hr
    (Capture.oldestAtStop_ring _ hm) _

include hkind

/-- The first sample of a region that has room for more (R143, R148). -/
theorem State.captureStep_firstStored (hst : s.capture.state = .armed) (hm : s.capture.mode = some .once)
    (h0 : s.capture.writeOffset = 0) (hw : s.capture.written = 0) (hlen : 2 ≤ r.length) : s.captureStep c =
      ((s.setCapture s.capture.started).storing c r sub (s.capture.firstStored s.now)).postCapture := by
  have room : ¬ s.capture.writeOffset + 1 = r.length := by omega
  rw [State.captureStep_starts (State.captureRegion_eq hid hr) hsub hst ht,
    State.storeFilling_once (s.setCapture s.capture.started) c r sub hm,
    ← Capture.started_storedAt c r s.now hkind (Nat.one_le_of_lt hlen) h0 hw]
  exact congrArg (State.noteCaptureEntry · .filling) (if_neg room)

/-- The first sample of a region of one word (R139, R143, R146). -/
theorem State.captureStep_onlyStored (hst : s.capture.state = .armed) (hm : s.capture.mode = some .once)
    (h0 : s.capture.writeOffset = 0) (hw : s.capture.written = 0) (hlen : r.length = 1) : s.captureStep c =
      ((s.setCapture s.capture.started).storing c r sub (s.capture.firstStored s.now)).stopping id r 0 .full := by
  have full : s.capture.writeOffset + 1 = r.length := by omega
  rw [State.captureStep_starts (State.captureRegion_eq hid hr) hsub hst ht,
    State.storeFilling_full (s := s.setCapture s.capture.started) c sub hid hr hm full,
    ← Capture.started_storedAt c r s.now hkind hlen.ge h0 hw]
  rfl

/-- The first of several samples after the trigger (R144, R148). -/
theorem State.captureStep_firstPost (hst : s.capture.state = .filling) (hm : s.capture.mode = some .ring)
    (hpost : 2 ≤ s.capture.postCount) : s.captureStep c =
      ((s.setCapture s.capture.entered).storing c r sub (s.capture.firstPost r s.now)).postCapture := by
  have more : ¬ s.capture.postCount - 1 = 0 := by omega
  rw [State.captureStep_entersPost (State.captureRegion_eq hid hr) hsub hst hm ht (by omega),
    State.storePost_ring (s.setCapture s.capture.entered) c r sub hm, ← Capture.entered_storedPost c r s.now hkind]
  exact congrArg (State.noteCaptureEntry · .post) (if_neg more)

/-- The only sample after the trigger (R144, R145, R146). -/
theorem State.captureStep_onlyPost (hst : s.capture.state = .filling) (hm : s.capture.mode = some .ring)
    (hpost : s.capture.postCount = 1) : s.captureStep c =
      ((s.setCapture s.capture.entered).storing c r sub (s.capture.firstPost r s.now)).stopping id r
        (if min r.length (s.capture.written + 1) = r.length then s.capture.ringNext r.length else 0) .postDone := by
  rw [State.captureStep_entersPost (State.captureRegion_eq hid hr) hsub hst hm ht (by omega),
    State.storePost_last (s := s.setCapture s.capture.entered) c sub hid hr hm hpost,
    ← Capture.entered_storedPost c r s.now hkind]
  rfl

end

/-- Settles O44: the trigger in each state of the capture. -/
theorem captureTakesItsTrigger : Obligations.CaptureTakesItsTrigger := by
  intro s c id r sub w hid hr hsub hwatch hkind halert
  have ht : s.capture.triggered c = true := (Capture.triggered_iff).mpr ⟨w, hwatch, hkind, halert⟩
  have hreg := State.captureRegion_eq hid hr
  refine ⟨fun hst hm h0 hw => ⟨?_, fun hlen => ?_, fun hlen => ?_⟩,
    fun hst hm hpost => ⟨?_, fun hmore => ?_, fun hone => ?_⟩, fun hst hm hpost => ?_, fun hst => ?_, ?_⟩
  · rw [State.captureStep_starts_memory hid hr hsub ht hst, h0]
    rfl
  · rw [State.captureStep_firstStored hid hr hsub hkind ht hst hm h0 hw hlen]
    exact ⟨rfl, rfl, rfl⟩
  · rw [State.captureStep_onlyStored hid hr hsub hkind ht hst hm h0 hw hlen]
    exact ⟨rfl, rfl, rfl⟩
  · exact State.captureStep_entersPost_memory hid hr hsub ht hst hm (by omega)
  · rw [State.captureStep_firstPost hid hr hsub hkind ht hst hm hmore]
    exact ⟨rfl, rfl, rfl⟩
  · rw [State.captureStep_onlyPost hid hr hsub hkind ht hst hm hone]
    exact ⟨rfl, rfl, rfl⟩
  · rw [State.captureStep_stoppedAtTrigger hid hr hsub ht hst hm hpost]
    exact ⟨rfl, rfl, rfl, rfl⟩
  · obtain hst | ⟨hst, hm⟩ := hst
    · exact (State.captureStep_post hreg hsub hst).trans
        (State.captureStep_post (c := { c with alerts := [] }) hreg hsub hst).symm
    · exact (State.captureStep_fillsOnce hreg hsub hst hm).trans
        (State.captureStep_fillsOnce (c := { c with alerts := [] }) hreg hsub hst hm).symm
  · obtain ⟨m, k, rs, n, e⟩ := s.captureStep_frame c
    rw [e]

end Sys2Proof.Machine
end

section
/-! START CAPTURE and STOP CAPTURE, taken at once (R136, R147). -/

namespace Sys2Proof.Machine

section
variable {s : State} {body : List Payload} {f : StartCaptureFields} {q : Region} (hb : readStartCapture body = some f)
include hb

/-- START CAPTURE while a capture runs (R136). -/
theorem takeStartCapture_busy (hrun : s.capture.state ≠ .idle) : takeStartCapture body s = .refused .captureBusy := by
  rw [takeStartCapture, checked_some hb, if_pos hrun]

variable (hidle : s.capture.state = .idle)
include hidle

/-- START CAPTURE on an UNDEFINED region (R136). -/
theorem takeStartCapture_undefined (hid : s.regions.row f.region = none) :
    takeStartCapture body s = .refused .regionBusy := by
  rw [takeStartCapture, checked_some hb, if_neg (not_not.mpr hidle), hid]

/-- START CAPTURE on a defined region: it must be READY and hold the post count, and the subject must not be a
management slot (R136). -/
theorem takeStartCapture_defined (hq : s.regions.row f.region = some q) : takeStartCapture body s =
    if q.use ≠ .ready then .refused .regionBusy
    else if q.length < f.postCount then .refused .badField
    else if s.link.reserves f.subject then .refused .slotReserved
    else .done ((s.putRegion f.region (some { q with use := .capturing, valid := 0, oldest := 0 })).setCapture f.record)
      f.record.words := by
  rw [takeStartCapture, checked_some hb, if_neg (not_not.mpr hidle), hq]

end

/-- STOP CAPTURE of a running capture stops it in its region, and answers what it gives the region (R147). -/
theorem takeStopCapture_running {s : State} {id : RegionNo} {q : Region} {oldest : Nat}
    (hrun : s.capture.state ≠ .idle) (hid : s.capture.region = some id) (hq : s.regions.row id = some q)
    (ho : s.capture.oldestAtStop q.length = oldest) : takeStopCapture [] s = .done (s.stopping id q oldest .stopped)
      [0#3 ++ id ++ 3#3 ++ BitVec.ofBool s.capture.triggerOffset.isSome ++ 0#1
          ++ BitVec.ofNat 13 (s.capture.triggerOffset.getD 0),
        low14 s.capture.written, low14 s.capture.written, low13 oldest] := by
  have region : (s.stopping id q oldest .stopped).captureRegion =
      some { q with use := .ready, valid := s.capture.written, oldest := oldest } :=
    State.captureRegion_eq (s := s.stopping id q oldest .stopped) hid ((Table.row_put _ _ _ _).trans (if_pos rfl))
  have words : stopCaptureWords (s.stopping id q oldest .stopped) =
      [0#3 ++ id ++ 3#3 ++ BitVec.ofBool s.capture.triggerOffset.isSome ++ 0#1
          ++ BitVec.ofNat 13 (s.capture.triggerOffset.getD 0),
        low14 s.capture.written, low14 s.capture.written, low13 oldest] := by
    rw [stopCaptureWords, region]
    simp [State.stopping, hid, endReasonCode, bit]
  rw [takeStopCapture, checked_some (fields := readNone []) rfl, if_neg hrun]
  dsimp only
  rw [State.stopCapture_stopping hid hq ho, words]

/-- Settles O58: each request taken at once, check by check. -/
theorem captureRequests : Obligations.CaptureRequests := by
  rintro s ⟨tag, res, body⟩ (rfl : res = false) htake
  refine ⟨fun f hb => ⟨fun hrun => ?_, fun hidle hid => ?_, fun q hq hidle => ⟨fun huse => ?_, fun huse hlen => ?_,
    fun huse hlen hsub => ?_, fun huse hlen hin hout => ?_⟩⟩, ?_, ?_⟩
  · exact congrArg Host.Outcome.next (State.deliver_refused htake (by decide)
      (takeStartCapture_busy (s := s.reserved tag 24) hb hrun))
  · exact congrArg Host.Outcome.next (State.deliver_refused htake (by decide)
      (takeStartCapture_undefined (s := s.reserved tag 24) hb hidle hid))
  · exact congrArg Host.Outcome.next (State.deliver_refused htake (by decide)
      ((takeStartCapture_defined (s := s.reserved tag 24) hb hidle hq).trans (if_pos huse)))
  · exact congrArg Host.Outcome.next (State.deliver_refused htake (by decide)
      ((takeStartCapture_defined (s := s.reserved tag 24) hb hidle hq).trans
        ((if_neg (not_not.mpr huse)).trans (if_pos hlen))))
  · have reserved : s.link.reserves f.subject = true := by
      rw [← Bool.not_eq_false, Link.reserves_iff]
      exact fun ⟨hin, hout⟩ => hsub.elim hin hout
    exact congrArg Host.Outcome.next (State.deliver_refused htake (by decide)
      ((takeStartCapture_defined (s := s.reserved tag 24) hb hidle hq).trans
        ((if_neg (not_not.mpr huse)).trans ((if_neg (not_lt.mpr hlen)).trans (if_pos reserved)))))
  · have free : ¬ s.link.reserves f.subject = true :=
      Bool.eq_false_iff.mp ((Link.reserves_iff).mpr ⟨hin, hout⟩)
    exact ⟨f.record, rfl, rfl, congrArg Host.Outcome.next (State.deliver_done
      (u := (s.putRegion f.region (some { q with use := .capturing, valid := 0, oldest := 0 })).setCapture f.record)
      htake (by decide)
      ((takeStartCapture_defined (s := s.reserved tag 24) hb hidle hq).trans ((if_neg (not_not.mpr huse)).trans
        ((if_neg (not_lt.mpr hlen)).trans (if_neg free)))) rfl)⟩
  · rintro (rfl : body = []) hidle
    exact congrArg Host.Outcome.next (State.deliver_refused htake (by decide)
      ((checked_some rfl).trans (if_pos hidle)))
  · rintro id q (rfl : body = []) hrun hid hq
    exact congrArg Host.Outcome.next (State.deliver_done
      (u := s.stopping id q (s.capture.oldestAtStop q.length) .stopped) htake (by decide)
      (takeStopCapture_running (s := s.reserved tag 25) hrun hid hq rfl) rfl)

end Sys2Proof.Machine
end

section
/-! The evaluation of a watch at a frame arrival (R163 to R167). -/

namespace Sys2Proof.Machine

/-! ## The magnitude and the conditions -/

/-- No magnitude exceeds the largest positive sample (R164). -/
theorem magnitude_le (x : Sample) : magnitude x ≤ 8388607 := Nat.min_le_right _ _

/-- Only the smallest sample's absolute value is cut (R164). -/
theorem magnitude_eq_abs {x : Sample} (h : x ≠ 0x800000) : (magnitude x : Int) = |x.toInt| := by
  have least : x.toInt ≠ -8388608 := fun e => h (BitVec.eq_of_toInt_eq (e.trans (by decide)))
  have low := x.le_toInt
  have high := x.toInt_lt
  rw [magnitude, Int.abs_eq_natAbs]
  omega

/-- Only silence has magnitude 0 (R164). -/
theorem magnitude_eq_zero_iff {x : Sample} : magnitude x = 0 ↔ x = 0 := by
  constructor
  · intro h
    have zero : x.toInt = 0 := by rw [magnitude] at h; omega
    exact BitVec.eq_of_toInt_eq (zero.trans (by decide))
  · rintro rfl
    rfl

section
variable {p : WatchParams} {m : Nat}

/-- ABOVE is met at the threshold and past it (R164). -/
theorem WatchParams.condition_above (h : p.sense = .above) : p.condition m = true ↔ p.threshold.toNat ≤ m := by
  simp only [WatchParams.condition, h, decide_eq_true_eq]

/-- ABOVE clears below the release (R164). -/
theorem WatchParams.clears_above (h : p.sense = .above) : p.clears m = true ↔ m < p.release.toNat := by
  simp only [WatchParams.clears, h, decide_eq_true_eq]

/-- BELOW is met at the threshold and under it (R164). -/
theorem WatchParams.condition_below (h : p.sense = .below) : p.condition m = true ↔ m ≤ p.threshold.toNat := by
  simp only [WatchParams.condition, h, decide_eq_true_eq]

/-- BELOW clears past the release (R164). -/
theorem WatchParams.clears_below (h : p.sense = .below) : p.clears m = true ↔ p.release.toNat < m := by
  simp only [WatchParams.clears, h, decide_eq_true_eq]

/-- With the release at the threshold exactly one of the two conditions is met (R164). -/
theorem WatchParams.condition_iff_not_clears (h : p.release = p.threshold) :
    p.condition m = true ↔ p.clears m = false := by
  rw [← Bool.not_eq_true]
  cases hs : p.sense with
  | above => rw [condition_above hs, clears_above hs, h, not_lt]
  | below => rw [condition_below hs, clears_below hs, h, not_lt]

end

/-! ## One evaluation of a record -/

/-- The run of evaluations in a row that meet the condition, this one counted (R165). -/
def Watch.nextRun (r : Watch) : Nat := if r.state = .clear then 1 else r.run + 1

section
variable {r : Watch} {p : WatchParams} {m : Nat}

/-- A DISARMED record is not evaluated (R165). -/
theorem Watch.evaluate_disarmed (h : r.state = .disarmed) : r.evaluate p m = r := by
  simp only [Watch.evaluate, h]

/-- In CLEAR and PENDING the condition decides, and the duration where it is met (R165). -/
theorem Watch.evaluate_waiting (h : r.state = .clear ∨ r.state = .pending) : r.evaluate p m =
    if p.condition m then
      if p.duration ≤ r.nextRun then { r with state := .alerted, run := p.duration }
      else { r with state := .pending, run := r.nextRun }
    else { r with state := .clear, run := 0 } := by
  rcases h with h | h <;> simp only [Watch.evaluate, Watch.nextRun, h]

/-- In ALERTED the clear condition alone decides (R165). -/
theorem Watch.evaluate_alerted (h : r.state = .alerted) :
    r.evaluate p m = if p.clears m then { r with state := .clear, run := 0 } else r := by
  simp only [Watch.evaluate, h]

end

/-! ## The evaluation at a frame arrival -/

section
variable {s : State} {c : FrameCtx} {w : WatchNo} {p : WatchParams} {r' : Watch}
  (hp : (s.watches.row w).params = some p)
  (he : (s.watches.row w).evaluate p (magnitude (c.value p.subject)) = r')
include hp he

/-- An evaluation that neither enters nor leaves ALERTED only writes the record (R165, R166). -/
theorem State.watchStep_quiet (hq : (s.watches.row w).state = .alerted ↔ r'.state = .alerted) :
    s.watchStep c w = s.setWatches (s.watches.put w r') := by
  have enters : ¬ ((s.watches.row w).state ≠ .alerted ∧ r'.state = .alerted) := fun ⟨h, h'⟩ => h (hq.mpr h')
  have leaves : ¬ ((s.watches.row w).state = .alerted ∧ r'.state = .clear) := fun ⟨h, h'⟩ => by
    simp [hq.mp h] at h'
  simp only [State.watchStep, hp, he, if_neg enters, if_neg leaves]
  rfl

/-- An evaluation that enters ALERTED posts WATCH_STATE and hands over the trigger (R166, R167). -/
theorem State.watchStep_enters (hf : s.frame = some c) (hs : (s.watches.row w).state ≠ .alerted)
    (hr : r'.state = .alerted) : s.watchStep c w =
      (((s.setWatches (s.watches.put w r')).post
        (.watchState w s.now true p.subject (magnitude (c.value p.subject)))).setFrame
          (some { c with alerts := w :: c.alerts })) := by
  have handed : ∀ u : State, u.frame = some c → u.alert w = u.setFrame (some { c with alerts := w :: c.alerts }) :=
    fun u hu => by rw [State.alert, hu, Option.map_some]
  simp only [State.watchStep, hp, he, if_pos (And.intro hs hr)]
  exact handed _ hf

/-- An evaluation that leaves ALERTED posts WATCH_STATE (R166). -/
theorem State.watchStep_leaves (hs : (s.watches.row w).state = .alerted) (hr : r'.state = .clear) : s.watchStep c w =
    (s.setWatches (s.watches.put w r')).post
      (.watchState w s.now false p.subject (magnitude (c.value p.subject))) := by
  have enters : ¬ ((s.watches.row w).state ≠ .alerted ∧ r'.state = .alerted) := fun ⟨h, _⟩ => h hs
  simp only [State.watchStep, hp, he, if_neg enters, if_pos (And.intro hs hr)]
  rfl

end

/-- An evaluation that leaves the record as it is leaves the state as it is (R165). -/
theorem State.watchStep_same {s : State} {c : FrameCtx} {w : WatchNo} {p : WatchParams}
    (hp : (s.watches.row w).params = some p)
    (he : (s.watches.row w).evaluate p (magnitude (c.value p.subject)) = s.watches.row w) : s.watchStep c w = s := by
  rw [State.watchStep_quiet hp he Iff.rfl, Table.put_row]
  rfl

/-- Settles O42: the conditions sense by sense, then the evaluation state by state. -/
theorem watchEvaluation : Obligations.WatchEvaluation := by
  refine ⟨fun x => ⟨magnitude_eq_abs, rfl, magnitude_le x⟩, fun p m hs => ?_, fun p m hs => ?_,
    fun p m => WatchParams.condition_iff_not_clears, fun p x hs h0 hrel => ?_, fun p x hs h0 hrel => ?_,
    fun p x hs h0 => ?_, fun s c w p hf hp hdur => ?_⟩
  · rw [← Bool.not_eq_true, ← Bool.not_eq_true, WatchParams.condition_above hs, WatchParams.clears_above hs]
    omega
  · rw [← Bool.not_eq_true, ← Bool.not_eq_true, WatchParams.condition_below hs, WatchParams.clears_below hs]
    omega
  · rw [← Bool.not_eq_true, WatchParams.condition_above hs, WatchParams.clears_above hs]
    have zero : p.threshold.toNat = 0 := by rw [h0]; rfl
    omega
  · have bound := magnitude_le x
    rw [← Bool.not_eq_true, WatchParams.condition_below hs, WatchParams.clears_below hs]
    have top : p.threshold.toNat = 8388607 := by rw [h0]; rfl
    omega
  · have zero : p.threshold.toNat = 0 := by rw [h0]; rfl
    rw [WatchParams.condition_below hs, zero, Nat.le_zero, magnitude_eq_zero_iff]
  · intro r m run
    refine ⟨fun hst => State.watchStep_same hp (Watch.evaluate_disarmed hst), fun hst => ?_, fun hst => ?_⟩
    · have notAlerted : r.state ≠ .alerted := by rcases hst with h | h <;> simp [h]
      refine ⟨fun hc hrun => ?_, fun hc hrun => ?_, fun hc => ?_⟩
      · have counts : r.evaluate p m = { r with state := .pending, run := run } := by
          rw [Watch.evaluate_waiting hst, if_pos hc]
          exact if_neg (not_le.mpr hrun)
        exact State.watchStep_quiet hp counts ⟨fun h => absurd h notAlerted, nofun⟩
      · have reaches : r.evaluate p m = { r with state := .alerted, run := p.duration } := by
          rw [Watch.evaluate_waiting hst, if_pos hc]
          exact if_pos hrun.ge
        exact State.watchStep_enters hp reaches hf notAlerted rfl
      · have breaks : r.evaluate p m = { r with state := .clear, run := 0 } := by
          rw [Watch.evaluate_waiting hst, if_neg (Bool.eq_false_iff.mp hc)]
        exact State.watchStep_quiet hp breaks ⟨fun h => absurd h notAlerted, nofun⟩
    · refine ⟨fun hc => ?_, fun hc => ?_⟩
      · have clears : r.evaluate p m = { r with state := .clear, run := 0 } := by
          rw [Watch.evaluate_alerted hst, if_pos hc]
        exact State.watchStep_leaves hp clears hst rfl
      · have stays : r.evaluate p m = r := by rw [Watch.evaluate_alerted hst, if_neg (Bool.eq_false_iff.mp hc)]
        exact State.watchStep_same hp stays

end Sys2Proof.Machine
end

section
/-! SET WATCH and CLEAR WATCH, taken at once (R168, R169). -/

namespace Sys2Proof.Machine

/-- A SET WATCH that is read has a duration and a release within its bounds (R168). -/
theorem readSetWatch_bounds {body : List Payload} {w : WatchNo} {p : WatchParams}
    (h : readSetWatch body = some (w, p)) :
    1 ≤ p.duration ∧ p.duration ≤ 4096 ∧ (p.sense = .above → p.release.toNat ≤ p.threshold.toNat) ∧
      (p.sense = .below → p.threshold.toNat ≤ p.release.toNat) := by
  unfold readSetWatch at h
  split at h
  · dsimp only at h
    rw [Option.ite_none_right_eq_some] at h
    obtain ⟨sound, hread⟩ := h
    rw [Bool.and_eq_true, Bool.and_eq_true, Bool.and_eq_true] at sound
    obtain ⟨⟨⟨_, positive⟩, bounded⟩, release⟩ := sound
    split at hread
    · obtain ⟨rfl, rfl⟩ := Prod.mk.inj (Option.some.inj hread)
      refine ⟨of_decide_eq_true positive, of_decide_eq_true bounded, fun hs => ?_, fun hs => ?_⟩
      all_goals
        dsimp only at hs
        rw [hs] at release
        exact of_decide_eq_true release
    · cases hread
  · cases h

/-- The slots of a link assignment, each on its own side (R36). -/
theorem Link.reserves_eq_true_iff {l : Link} {sub : Subject} :
    l.reserves sub = true ↔ sub = .input l.inb ∨ sub = .output l.outb := by
  rw [← Bool.not_eq_false, Link.reserves_iff, not_and_or, not_not, not_not]

/-- A capture waits on the watch of its trigger before that trigger has come (R169). -/
theorem Capture.waitsOn_iff {k : Capture} {w : WatchNo} : k.waitsOn w = true ↔
    k.trigger = some (.watch w) ∧ (k.state = .armed ∨ (k.state = .filling ∧ k.mode = some .ring)) := by
  simp only [Capture.waitsOn, Bool.and_eq_true, Bool.or_eq_true, beq_iff_eq]

/-- SET WATCH: the subject must not be a management slot (R168). -/
theorem takeSetWatch_read {s : State} {body : List Payload} {w : WatchNo} {p : WatchParams}
    (hb : readSetWatch body = some (w, p)) : takeSetWatch body s =
      if s.link.reserves p.subject then .refused .slotReserved
      else .done (s.setWatches (s.watches.put w ⟨.clear, some p, 0⟩))
        (Watch.words w ⟨.clear, some p, 0⟩ (s.watches.row w).state.code) :=
  checked_some hb

/-- CLEAR WATCH: the capture must not wait on the watch (R169). -/
theorem takeClearWatch_read {s : State} {body : List Payload} {w : WatchNo} (hb : readWatchNo body = some w) :
    takeClearWatch body s =
      if s.capture.waitsOn w then .refused .watchInUse
      else .done (s.setWatches (s.watches.put w { s.watches.row w with state := .disarmed, run := 0 }))
        [w ++ 0#14 ++ (s.watches.row w).state.code ++ 0#4] :=
  checked_some hb

/-- Settles O60: each request taken at once, check by check. -/
theorem watchRequests : Obligations.WatchRequests := by
  rintro s ⟨tag, res, body⟩ (rfl : res = false) htake
  refine ⟨fun w p hb => ⟨fun hsub => ?_, fun hin hout => ?_⟩, fun w hb => ⟨fun hwait => ?_, fun hfree => ?_⟩,
    fun w p => readSetWatch_bounds⟩
  · have reserved : s.link.reserves p.subject = true := Link.reserves_eq_true_iff.mpr hsub
    exact congrArg Host.Outcome.next (State.deliver_refused htake (by decide)
      ((takeSetWatch_read (s := s.reserved tag 30) hb).trans (if_pos reserved)))
  · have free : ¬ s.link.reserves p.subject = true := fun h => (Link.reserves_eq_true_iff.mp h).elim hin hout
    exact congrArg Host.Outcome.next (State.deliver_done
      (u := s.setWatches (s.watches.put w ⟨.clear, some p, 0⟩)) htake (by decide)
      ((takeSetWatch_read (s := s.reserved tag 30) hb).trans (if_neg free)) rfl)
  · exact congrArg Host.Outcome.next (State.deliver_refused htake (by decide)
      ((takeClearWatch_read (s := s.reserved tag 31) hb).trans (if_pos (Capture.waitsOn_iff.mpr hwait))))
  · exact congrArg Host.Outcome.next (State.deliver_done
      (u := s.setWatches (s.watches.put w { s.watches.row w with state := .disarmed, run := 0 })) htake (by decide)
      ((takeClearWatch_read (s := s.reserved tag 31) hb).trans (if_neg fun h => hfree (Capture.waitsOn_iff.mp h))) rfl)

end Sys2Proof.Machine
end

section
/-! The records of replies and the bodies of notices, read at the bit places of the tables (R183, R184, R187, R188). -/

namespace Sys2Proof.Machine

open BitVec (extractLsb'_append_eq_of_le extractLsb'_append_eq_of_add_le)

/-! ## Codes and reserved fields -/

/-- In a table that lists the statuses by their codes, each status stands at its own code. -/
theorem Status.code_of_table {l : List Status} (table : l.map (·.code.toNat) = List.range l.length) {i : Nat}
    {st : Status} (h : l[i]? = some st) : st.code.toNat = i := by
  have place : (l.map (·.code.toNat))[i]? = some st.code.toNat := by rw [List.getElem?_map, h, Option.map_some]
  rw [table, List.getElem?_eq_some_iff] at place
  obtain ⟨_, place⟩ := place
  rw [← place, List.getElem_range]

/-- Fields of 0 that stand next to each other at the end of a layout are one field of 0. -/
theorem append_zeros {k : Nat} (x : BitVec k) (m n : Nat) : x ++ 0#m ++ 0#n = (x ++ 0#(m + n)).cast (by omega) := by
  rw [BitVec.append_assoc, BitVec.zero_append_zero]

/-! ## The bodies of notices -/

/-- The three words before the kind's own: a notice body of any kind begins with them (R188). -/
theorem Notice.body_fields (n : Notice) (lost : BitVec 8) : ∃ w0 w1 w2, n.body lost = [w0, w1, w2] ++ n.val.words ∧
    fld w0 16 8 = lost ∧ fld w0 8 8 = n.count ∧ fld w0 0 8 = BitVec.ofNat 8 n.val.subject ∧
    w1 = n.val.frame.extractLsb' 0 24 ∧ fld w2 0 8 = n.val.frame.extractLsb' 24 8 ∧ fld w2 8 16 = 0 := by
  refine ⟨_, _, _, rfl, ?_⟩
  simp [-Nat.reduceAdd, fld, extractLsb'_append_eq_of_le, extractLsb'_append_eq_of_add_le]

section Kinds

variable (f : FrameNo)

/-- FRAME_STATE. -/
theorem NoticeVal.words_frameState (st : TimingState) (cause : Cause) (absent : Bool) :
    ∃ w3, (NoticeVal.frameState f st cause absent).words = [w3] ∧ fld w3 22 2 = st.code ∧ fld w3 19 3 = cause.code ∧
      w3.getLsbD 18 = absent ∧ fld w3 0 18 = 0 := by
  refine ⟨_, rfl, ?_⟩
  simp [-Nat.reduceAdd, -BitVec.getLsbD_eq_getElem, fld, bit, BitVec.getLsbD_append, extractLsb'_append_eq_of_le,
    extractLsb'_append_eq_of_add_le]

/-- LINK_RESYNC. -/
theorem NoticeVal.words_linkResync (dropped : Nat) (discarded : Bool) :
    ∃ w3, (NoticeVal.linkResync f dropped discarded).words = [w3] ∧ w3.getLsbD 23 = discarded ∧
      fld w3 0 3 = BitVec.ofNat 3 dropped ∧ fld w3 3 20 = 0 := by
  refine ⟨_, rfl, ?_⟩
  simp [-Nat.reduceAdd, -BitVec.getLsbD_eq_getElem, fld, bit, BitVec.getLsbD_append, extractLsb'_append_eq_of_le,
    extractLsb'_append_eq_of_add_le]

/-- INBOUND_ABANDONED. -/
theorem NoticeVal.words_inboundAbandoned (reason : Reason) (tag : Tag) (stored : Nat) :
    ∃ w3, (NoticeVal.inboundAbandoned f reason tag stored).words = [w3] ∧ fld w3 21 3 = reason.code ∧
      fld w3 15 6 = tag ∧ fld w3 0 6 = BitVec.ofNat 6 stored ∧ fld w3 6 9 = 0 := by
  refine ⟨_, rfl, ?_⟩
  simp [-Nat.reduceAdd, fld, extractLsb'_append_eq_of_le, extractLsb'_append_eq_of_add_le]

/-- WATCH_STATE. -/
theorem NoticeVal.words_watchState (w : WatchNo) (alerted : Bool) (sub : Subject) (m : Nat) :
    ∃ w3 w4, (NoticeVal.watchState w f alerted sub m).words = [w3, w4] ∧ w3.getLsbD 23 = alerted ∧
      fld w3 20 2 = subjectKind (some sub) ∧ fld w3 14 6 = subjectNumber (some sub) ∧ w3.getLsbD 22 = false ∧
      fld w3 0 14 = 0 ∧ fld w4 0 23 = BitVec.ofNat 23 m ∧ w4.getLsbD 23 = false := by
  refine ⟨_, _, rfl, ?_⟩
  simp [-Nat.reduceAdd, -BitVec.getLsbD_eq_getElem, fld, bit, BitVec.getLsbD_append, extractLsb'_append_eq_of_le,
    extractLsb'_append_eq_of_add_le]

/-- The word of CAPTURE_STATE that holds several fields; the six after it hold one each. -/
theorem NoticeVal.words_captureState (r : CaptureReport) :
    ∃ w3, (NoticeVal.captureState f r).words = [w3, low14 r.written, low14 r.valid, low13 r.oldest,
        low16 r.holdoverFrames] ++ longPair (r.startFrame.getD 0) ∧
      fld w3 22 2 = r.state.code ∧ w3.getLsbD 21 = false ∧ fld w3 18 3 = r.region ∧
      fld w3 15 3 = endReasonCode r.endReason ∧ w3.getLsbD 14 = r.triggerOffset.isSome ∧
      w3.getLsbD 13 = r.startFrame.isSome ∧ fld w3 0 13 = BitVec.ofNat 13 (r.triggerOffset.getD 0) := by
  refine ⟨_, rfl, ?_⟩
  simp [-Nat.reduceAdd, -BitVec.getLsbD_eq_getElem, fld, bit, BitVec.getLsbD_append, extractLsb'_append_eq_of_le,
    extractLsb'_append_eq_of_add_le]

/-- PLAYER_DONE. -/
theorem NoticeVal.words_playerDone (p : PlayerNo) (region : RegionNo) (passes : BitVec 16) :
    ∃ w3, (NoticeVal.playerDone p f region passes).words = [w3] ∧ fld w3 18 3 = region ∧ fld w3 0 16 = passes ∧
      fld w3 16 2 = 0 ∧ fld w3 21 3 = 0 := by
  refine ⟨_, rfl, ?_⟩
  simp [-Nat.reduceAdd, fld, extractLsb'_append_eq_of_le, extractLsb'_append_eq_of_add_le]

/-- The first word of CLIP; the listed slots follow. -/
theorem NoticeVal.words_clip (slots : List Slot) (overflow : Nat) :
    ∃ w3, (NoticeVal.clip f slots overflow).words = w3 :: packSlots slots ∧
      fld w3 8 6 = BitVec.ofNat 6 slots.length ∧ fld w3 0 7 = BitVec.ofNat 7 overflow ∧ w3.getLsbD 7 = false ∧
      fld w3 14 10 = 0 := by
  refine ⟨_, rfl, ?_⟩
  simp [-Nat.reduceAdd, -BitVec.getLsbD_eq_getElem, fld, BitVec.getLsbD_append, extractLsb'_append_eq_of_le,
    extractLsb'_append_eq_of_add_le]

end Kinds

/-! ## The listed slots of CLIP -/

/-- One word of the packing: the first four slots from its highest bits down, 0 in the places past the last slot. -/
def firstSlots (slots : List Slot) : Payload :=
  slots.getD 0 0 ++ slots.getD 1 0 ++ slots.getD 2 0 ++ slots.getD 3 0

/-- The packing takes four slots at a time. -/
theorem packSlots_eq {slots : List Slot} (h : slots ≠ []) :
    packSlots slots = firstSlots slots :: packSlots (slots.drop 4) := by
  match slots with
  | _ :: _ :: _ :: _ :: _ | [_, _, _] => rfl
  | [_, _] | [_] => simp [-Nat.reduceAdd, packSlots, firstSlots, append_zeros]

/-- The four places of a word. -/
theorem fld_firstSlots (slots : List Slot) {j : Nat} (hj : j < 4) :
    fld (firstSlots slots) (18 - 6 * j) 6 = slots.getD j 0 := by
  match j with
  | 0 | 1 | 2 | 3 =>
    simp [-Nat.reduceAdd, -List.getD_eq_getElem?_getD, firstSlots, fld, extractLsb'_append_eq_of_le,
      extractLsb'_append_eq_of_add_le]

/-- Place `j` of word `k` holds slot `4 * k + j`, and 0 past the last slot. -/
theorem fld_packSlots {slots : List Slot} {k : Nat} {w : Payload} (h : (packSlots slots)[k]? = some w) {j : Nat}
    (hj : j < 4) : fld w (18 - 6 * j) 6 = slots.getD (4 * k + j) 0 := by
  induction k generalizing slots with
  | zero =>
    have listed : slots ≠ [] := by rintro rfl; cases h
    rw [packSlots_eq listed] at h
    cases h
    rw [fld_firstSlots slots hj, Nat.mul_zero, Nat.zero_add]
  | succ k ih =>
    have listed : slots ≠ [] := by rintro rfl; cases h
    rw [packSlots_eq listed, List.getElem?_cons_succ] at h
    have place : 4 + (4 * k + j) = 4 * (k + 1) + j := by omega
    rw [ih h, List.getD_eq_getElem?_getD, List.getElem?_drop, place, List.getD_eq_getElem?_getD]

/-- Four slots to a word. -/
theorem length_packSlots (slots : List Slot) : (packSlots slots).length = (slots.length + 3) / 4 := by
  induction slots using packSlots.induct with
  | case1 a b c d rest ih =>
    simp only [packSlots, List.length_cons, ih]
    omega
  | case2 | case3 | case4 | case5 => simp [packSlots]

/-- Each listed slot stands at its place. -/
theorem packSlots_slot {slots : List Slot} {i : Nat} {slot : Slot} (h : slots[i]? = some slot) :
    ∃ w, (packSlots slots)[i / 4]? = some w ∧ fld w (18 - 6 * (i % 4)) 6 = slot := by
  obtain ⟨hi, _⟩ := List.getElem?_eq_some_iff.mp h
  have word : i / 4 < (packSlots slots).length := by rw [length_packSlots]; omega
  refine ⟨_, List.getElem?_eq_getElem word, ?_⟩
  rw [fld_packSlots (List.getElem?_eq_getElem word) (Nat.mod_lt _ (by decide)), Nat.div_add_mod,
    List.getD_eq_getElem?_getD, h, Option.getD_some]

/-- The places after the last slot are 0. -/
theorem packSlots_unused {slots : List Slot} {i : Nat} {w : Payload} (hi : slots.length ≤ i)
    (h : (packSlots slots)[i / 4]? = some w) : fld w (18 - 6 * (i % 4)) 6 = 0 := by
  rw [fld_packSlots h (Nat.mod_lt _ (by decide)), Nat.div_add_mod, List.getD_eq_default _ _ hi]

/-! ## The records -/

/-- The group record (R187). -/
theorem Group.words_fields (g : GroupNo) (r : Group) : ∃ g1 g2, Group.words g r = [g1, g2] ∧
    fld g1 21 3 = g ∧ fld g1 17 4 = BitVec.ofNat 4 r.step ∧ fld g1 10 7 = BitVec.ofNat 7 r.interval ∧
    g1.getLsbD 9 = r.muted ∧ fld g1 0 9 = 0 ∧ fld g2 16 7 = BitVec.ofNat 7 r.countdown ∧
    fld g2 0 9 = BitVec.ofNat 9 r.moving ∧ fld g2 9 7 = 0 ∧ g2.getLsbD 23 = false := by
  refine ⟨_, _, rfl, ?_⟩
  simp [-Nat.reduceAdd, -BitVec.getLsbD_eq_getElem, fld, bit, BitVec.getLsbD_append, extractLsb'_append_eq_of_le,
    extractLsb'_append_eq_of_add_le]

/-- The first word of a region record; the three after it hold one field each (R187). -/
theorem regionWords_some (id : RegionNo) (r : Region) :
    ∃ r1, regionWords id (some r) = [r1, low13 r.base, low14 r.valid, low13 r.oldest] ∧ fld r1 21 3 = id ∧
      fld r1 19 2 = regionStateCode (some r) ∧ fld r1 17 2 = BitVec.ofNat 2 r.use.users ∧
      fld r1 0 14 = BitVec.ofNat 14 r.length := by
  refine ⟨_, rfl, ?_⟩
  simp [-Nat.reduceAdd, fld, extractLsb'_append_eq_of_le, extractLsb'_append_eq_of_add_le]

/-- An UNDEFINED region's record is its number and zeros (R187). -/
theorem regionWords_none (id : RegionNo) : regionWords id none = [id ++ 0#21, 0, 0, 0] := by
  have head : id ++ 0#2 ++ 0#2 ++ 0#3 ++ 0#14 = id ++ 0#21 := by simp [-Nat.reduceAdd, append_zeros]
  exact congrArg (fun w : Payload => [w, 0, 0, 0]) head

/-- The position pair of a position whose pending part holds a contributor (R187). -/
theorem pairWords_fields (st : BitVec 2) (c : Contrib) (cur : Gain) (pend : BitVec 2) (p : Contrib) :
    ∃ pa pb, pairWords st c cur pend p = [pa, pb] ∧ fld pa 22 2 = st ∧ fld pa 15 7 = c.source ∧
      fld pa 14 1 = c.polarity.code ∧ fld pa 6 8 = c.target ∧ fld pa 4 2 = pend ∧ fld pb 16 8 = cur ∧
      fld pb 8 8 = p.target ∧ fld pb 1 7 = p.source ∧ fld pb 0 1 = p.polarity.code := by
  refine ⟨_, _, rfl, ?_⟩
  simp [-Nat.reduceAdd, fld, extractLsb'_append_eq_of_le, extractLsb'_append_eq_of_add_le]

/-- Without a pending contributor the second word is the current gain and zeros (R184, R187). -/
theorem pairWords_zero (st : BitVec 2) (c : Contrib) (cur : Gain) (pend : BitVec 2) :
    ∃ pa pb, pairWords st c cur pend .zero = [pa, pb] ∧ fld pa 22 2 = st ∧ fld pa 15 7 = c.source ∧
      fld pa 14 1 = c.polarity.code ∧ fld pa 6 8 = c.target ∧ fld pa 4 2 = pend ∧ fld pb 16 8 = cur ∧
      fld pb 0 16 = 0 := by
  obtain ⟨pa, pb, words, state, source, polarity, target, pending, current, _⟩ := pairWords_fields st c cur pend .zero
  refine ⟨pa, pb, words, state, source, polarity, target, pending, current, ?_⟩
  have zeros : pb = cur ++ 0#16 := by
    obtain ⟨rfl, _⟩ := List.cons.inj (List.cons.inj words).2
    simp [-Nat.reduceAdd, Contrib.zero, Polarity.code, append_zeros]
  rw [zeros]
  exact BitVec.extractLsb'_append_eq_right

/-- The capture record (R187). -/
theorem Capture.words_fields (k : Capture) :
    ∃ c1 c2 c3 c4 c5 c6 c7 c8 c9, k.words = [c1, c2, c3, c4, c5, c6, c7, c8, c9] ∧
    fld c1 22 2 = k.state.code ∧ c1.getLsbD 21 = k.region.isSome ∧ fld c1 18 3 = k.region.getD 0 ∧
    fld c1 16 2 = subjectKind k.subject ∧ fld c1 10 6 = subjectNumber k.subject ∧
    fld c1 8 2 = modeCode k.mode ∧ fld c1 6 2 = triggerCode k.trigger ∧ fld c1 2 4 = triggerWatch k.trigger ∧
    fld c2 21 3 = endReasonCode k.endReason ∧ c2.getLsbD 20 = k.triggerOffset.isSome ∧
    c2.getLsbD 19 = k.startFrame.isSome ∧ fld c2 0 14 = BitVec.ofNat 14 k.postCount ∧
    fld c3 0 14 = BitVec.ofNat 14 k.writeOffset ∧ fld c4 0 14 = BitVec.ofNat 14 k.written ∧
    fld c5 0 14 = BitVec.ofNat 14 k.postRemaining ∧ fld c6 0 13 = BitVec.ofNat 13 (k.triggerOffset.getD 0) ∧
    fld c7 0 16 = k.holdoverFrames ∧ c8 = (k.startFrame.getD 0).extractLsb' 0 24 ∧
    fld c9 0 8 = (k.startFrame.getD 0).extractLsb' 24 8 := by
  refine ⟨_, _, _, _, _, _, _, _, _, rfl, ?_⟩
  simp [-Nat.reduceAdd, -BitVec.getLsbD_eq_getElem, fld, low13, low14, low16, bit, BitVec.getLsbD_append,
    extractLsb'_append_eq_of_le, extractLsb'_append_eq_of_add_le]

/-- The player record (R187). -/
theorem Player.words_fields (p : PlayerNo) (r : Player) : ∃ p1 p2 p3, Player.words p r = [p1, p2, p3, r.sample] ∧
    fld p1 23 1 = p ∧ p1.getLsbD 22 = r.playing ∧ p1.getLsbD 21 = r.region.isSome ∧
    fld p1 18 3 = r.region.getD 0 ∧ fld p1 0 8 = r.loops ∧ fld p2 0 16 = r.passes ∧
    fld p3 0 13 = BitVec.ofNat 13 r.position := by
  refine ⟨_, _, _, rfl, ?_⟩
  simp [-Nat.reduceAdd, -BitVec.getLsbD_eq_getElem, playerHead, fld, low13, low16, bit, BitVec.getLsbD_append,
    extractLsb'_append_eq_of_le, extractLsb'_append_eq_of_add_le]

/-- The watch record (R187), in terms of the parameters as they stand, given or absent. -/
theorem Watch.words_fields (w : WatchNo) (r : Watch) (previous : BitVec 2) : ∃ x1 x2 x3 x5,
    Watch.words w r previous = [x1, x2, x3, low13 ((r.params.map (·.duration)).getD 0), x5] ∧
    fld x1 20 4 = w ∧ fld x1 18 2 = r.state.code ∧ fld x1 16 2 = subjectKind (r.params.map (·.subject)) ∧
    fld x1 10 6 = subjectNumber (r.params.map (·.subject)) ∧
    fld x1 8 1 = (r.params.map (·.sense.code)).getD 0 ∧ fld x1 4 2 = previous ∧
    fld x2 0 23 = (r.params.map (·.threshold)).getD 0 ∧ fld x3 0 23 = (r.params.map (·.release)).getD 0 ∧
    fld x5 0 13 = BitVec.ofNat 13 r.run := by
  refine ⟨_, _, _, _, rfl, ?_⟩
  simp [-Nat.reduceAdd, fld, low13, extractLsb'_append_eq_of_le, extractLsb'_append_eq_of_add_le]

/-- Settles O47: the codes by their definitions, then the bodies and the records one by one. -/
theorem recordsCarryTheirFields : Obligations.RecordsCarryTheirFields := by
  refine ⟨by and_intros <;> rfl, by and_intros <;> rfl, by and_intros <;> rfl, fun i st => Status.code_of_table rfl,
    by and_intros <;> rfl, by and_intros <;> rfl, by and_intros <;> rfl, by and_intros <;> rfl,
    by and_intros <;> rfl, by and_intros <;> rfl,
    ⟨rfl, rfl, rfl, rfl, rfl, rfl, rfl, fun _ => ⟨rfl, rfl⟩⟩,
    ⟨rfl, rfl, fun _ => ⟨rfl, rfl, rfl, rfl⟩, fun p => ⟨rfl, BitVec.setWidth_eq_append (by decide)⟩⟩,
    Notice.body_fields,
    fun f st cause absent => ⟨rfl, rfl, rfl, NoticeVal.words_frameState f st cause absent⟩,
    fun f dropped discarded => ⟨rfl, rfl, rfl, NoticeVal.words_linkResync f dropped discarded⟩,
    fun f reason tag stored => ⟨rfl, rfl, rfl, NoticeVal.words_inboundAbandoned f reason tag stored⟩,
    fun g f => ⟨rfl, rfl, rfl, rfl⟩,
    fun w f alerted sub m => ⟨rfl, rfl, rfl, NoticeVal.words_watchState f w alerted sub m⟩,
    fun f r => ⟨rfl, rfl, rfl, ?_⟩,
    fun p f region passes => ⟨rfl, rfl, rfl, NoticeVal.words_playerDone f p region passes⟩,
    fun f slots overflow => ⟨rfl, rfl, rfl, ?_⟩,
    Group.words_fields, fun id r => ?_, regionWords_none,
    fun c p cur => ⟨rfl, pairWords_zero 1 c cur 0, pairWords_zero 2 c cur 0, pairWords_fields 3 c cur 1 p,
      pairWords_zero 3 c cur 2⟩,
    Capture.words_fields, Player.words_fields, fun w st run previous => ?_, fun w st q run previous => ?_⟩
  · obtain ⟨w3, words, state, unused, region, reason, triggered, started, offset⟩ := NoticeVal.words_captureState f r
    exact ⟨w3, _, _, _, _, _, _, words, state, unused, region, reason, triggered, started, offset, rfl, rfl, rfl, rfl,
      rfl, rfl⟩
  · obtain ⟨w3, words, count, overflown, unused, reserved⟩ := NoticeVal.words_clip f slots overflow
    exact ⟨w3, _, words, count, overflown, unused, reserved, length_packSlots slots, fun i slot => packSlots_slot,
      fun i w => packSlots_unused⟩
  · obtain ⟨r1, words, number, state, users, length⟩ := regionWords_some id r
    exact ⟨r1, _, _, _, words, number, state, users, length, rfl, rfl, rfl⟩
  · obtain ⟨x1, x2, x3, x5, words, number, state, kind, _, _, _, _, _, count⟩ :=
      Watch.words_fields w ⟨st, none, run⟩ previous
    have absent : low13 0 = 0 := by decide
    exact ⟨x1, x2, x3, x5, words.trans (congrArg (fun x4 => [x1, x2, x3, x4, x5]) absent), number, state, kind, count⟩
  · obtain ⟨x1, x2, x3, x5, words, number, state, kind, subject, sense, before, threshold, release, count⟩ :=
      Watch.words_fields w ⟨st, some q, run⟩ previous
    exact ⟨x1, x2, x3, _, x5, words, number, state, kind, subject, sense, before, threshold, release,
      BitVec.extractLsb'_append_eq_right, count⟩

end Sys2Proof.Machine
end

section
/-! The step as the run of the queue's front command, and the laws of the machine of reset. -/

namespace Sys2Proof.Machine

/-! ## The queue of commands -/

/-- With a command in front the step is that command, run with the queue's rest. -/
theorem step_cons {s : State} {c : Instr} {rest : List Instr} (h : s.pending = c :: rest) :
    step s = exec c (s.setPending rest) := by
  simp only [step, h]

/-- With an empty queue the step takes what is still open of the last timing event. -/
theorem step_nil {s : State} (h : s.pending = []) : step s = .next s.finish := by
  simp only [step, h]

/-- Settles O1: the two cases of the queue, and `finish` with no event open. -/
theorem stepTakesFrontCommand : Obligations.StepTakesFrontCommand :=
  ⟨fun _ _ _ h => step_cons h, fun _ h => step_nil h, fun _ h => State.finish_of_none h⟩

/-! ## The laws at reset -/

/-- After pin reset the timing unit's record is legal, every slot is released and nothing is in flight (R5, R13, R117). -/
theorem State.reset_timingLaw : State.reset.timingLaw :=
  State.timingLaw_congr rfl rfl rfl State.reset.timingLaw_pinReset

/-- After pin reset IN 0.7 and OUT 0.7 lie in the format and on the lanes of reset, and nothing names them (R2, R4, R22). -/
theorem State.reset_linkLaw : State.reset.linkLaw :=
  State.linkLaw_congr rfl rfl rfl rfl rfl rfl rfl State.reset.linkLaw_pinReset

/-- After pin reset the parser hunts and the Notice Queue is empty (R23, R56). -/
theorem State.reset_inboundLaw : State.reset.inboundLaw :=
  ⟨Parser.legal_hunt rfl (Nat.zero_le _) (Nat.zero_le _), NoticeSide.legal_reset⟩

/-- After pin reset no request waits, every place is FREE and no fence stands (R40, R44, R49). -/
theorem State.reset_queueLaw : State.reset.queueLaw :=
  ⟨Nat.zero_le _, Nat.zero_le _, .refl [], List.nodup_nil, List.not_mem_nil, rfl⟩

/-- After pin reset every position of the Active Table is EMPTY (R61). -/
theorem State.reset_position (i : Slot) (k : BitVec 2) : (State.reset.active.row i).pos.row k = Position.empty := by
  have entry : State.reset.active.row i = Active.reset := Table.row_tab (fun _ => Active.reset) i
  rw [entry]
  exact Table.row_tab (fun _ => Position.empty) k

/-- After pin reset no group has movers (R61, R82). -/
theorem State.reset_movers (g : GroupNo) : movers g State.reset.active = 0 :=
  movers_eq_zero_iff.mpr fun i k _ => by rw [State.reset_position]; rfl

/-- The group record of reset is legal for a group without movers (R85). -/
theorem Group.legal_reset : Group.reset.legal 0 := by decide

/-- After pin reset every group record counts no movers, and every position is EMPTY (R61, R85, R86). -/
theorem State.reset_rampLaw : State.reset.rampLaw := by
  have group (g : GroupNo) : State.reset.groups.row g = Group.reset := Table.row_tab (fun _ => Group.reset) g
  refine ⟨fun g => ?_, fun i k => ?_⟩
  · rw [group, State.reset_movers]
    exact Group.legal_reset
  · rw [State.reset_position]
    rfl

/-- After pin reset no region is defined, the capture is IDLE and no player plays (R123, R134, R152). -/
theorem State.reset_regionLaw : State.reset.regionLaw :=
  State.regionLaw_reset rfl rfl rfl

/-- Settles O4, law by law. -/
theorem resetIsSafe : Obligations.ResetIsSafe :=
  ⟨State.reset_timingLaw, State.reset_linkLaw, State.reset_inboundLaw, State.reset_queueLaw, State.reset_rampLaw,
    State.reset_regionLaw, State.reset_memoryLaw⟩

end Sys2Proof.Machine
end

section
/-! The requests, their places and the Executor as one part of the machine: what of it a request's rule may write, and the
accounts of the Reply Queue (R38, R40, R43, R44, R46). -/

namespace Sys2Proof.Machine

/-! ## The accounts of the Reply Queue -/

/-- The places stand for the owners: one RESERVED place for each, no more places than there are, and no two live requests
with one tag and none with tag 0 (R38, R46). -/
def ReplyQueue.Accounts (r : ReplyQueue) (owners : List (Tag × Code)) : Prop :=
  r.reserved.length + r.ready.length ≤ Config.replyPlaces ∧
  (r.reserved.map fun p => (p.tag, p.code)).Perm owners ∧ r.liveTags.Nodup ∧ (0 : Tag) ∉ r.liveTags

/-- A tag is live where it is listed among the live tags (R38). -/
theorem ReplyQueue.live_eq_false_iff {r : ReplyQueue} {tag : Tag} : r.live tag = false ↔ tag ∉ r.liveTags := by
  simp only [ReplyQueue.live, ReplyQueue.liveTags, Bool.or_eq_false_iff, List.any_eq_false, List.mem_append,
    List.mem_map, List.mem_filter]
  grind

namespace ReplyQueue.Accounts

variable {r : ReplyQueue} {owners : List (Tag × Code)}

/-- The accounts do not look at the order of the owners. -/
theorem perm {owners' : List (Tag × Code)} (h : r.Accounts owners) (hp : owners.Perm owners') : r.Accounts owners' := by
  obtain ⟨hlen, hperm, tags⟩ := h
  exact ⟨hlen, hperm.trans hp, tags⟩

/-- A request's RESERVED place becomes READY: it stands for the request no more, whose tag stays live (R38, R47). -/
theorem makeReady {tag : Tag} {code : Code} (h : r.Accounts ((tag, code) :: owners)) (st : Status)
    (body : List Payload) : (r.makeReady tag st body).Accounts owners := by
  obtain ⟨hlen, hperm, hnodup, hzero⟩ := h
  obtain ⟨p, hp, hptag⟩ : ∃ p ∈ r.reserved, (p.tag, p.code) = (tag, code) :=
    List.mem_map.mp (hperm.symm.subset List.mem_cons_self)
  obtain ⟨rfl, rfl⟩ := Prod.mk.inj hptag
  obtain ⟨q, before, after, -, hq, hsplit, herase⟩ :=
    List.exists_of_eraseP hp (p := fun q => q.tag == p.tag) (beq_self_eq_true _)
  obtain rfl : q = p :=
    List.inj_on_of_nodup_map (List.nodup_append.mp hnodup).1 (by rw [hsplit]; simp) hp (beq_iff_eq.mp hq)
  have moved : r.reserved.Perm (q :: (before ++ after)) := hsplit ▸ List.perm_middle
  have live : (r.makeReady q.tag st body).liveTags.Perm r.liveTags := by
    simp only [ReplyQueue.makeReady, ReplyQueue.liveTags, herase, List.filter_append, List.map_append]
    refine .trans ?_ ((moved.map (·.tag)).symm.append_right _)
    simp [← List.append_assoc]
  refine ⟨?_, ?_, live.nodup_iff.mpr hnodup, fun h0 => hzero (live.subset h0)⟩
  · have := moved.length_eq
    simp only [ReplyQueue.makeReady, herase, List.length_append, List.length_cons, List.length_nil] at this ⊢
    omega
  · simpa only [ReplyQueue.makeReady, herase] using
      ((moved.map fun p => (p.tag, p.code)).symm.trans hperm).cons_inv

/-- An accepted request takes a FREE place (R28, R47). -/
theorem reserve (h : r.Accounts owners) {tag : Tag} (code : Code) (hfree : r.free ≠ 0) (h0 : tag ≠ 0)
    (hlive : r.live tag = false) :
    ReplyQueue.Accounts { r with reserved := r.reserved ++ [⟨tag, code⟩] } ((tag, code) :: owners) := by
  obtain ⟨hlen, hperm, hnodup, hzero⟩ := h
  have live : (ReplyQueue.liveTags { r with reserved := r.reserved ++ [⟨tag, code⟩] }).Perm (tag :: r.liveTags) := by
    simp [ReplyQueue.liveTags, List.perm_middle]
  refine ⟨?_, ?_, live.nodup_iff.mpr (List.nodup_cons.mpr ⟨live_eq_false_iff.mp hlive, hnodup⟩), fun hm => ?_⟩
  · simp only [ReplyQueue.free, List.length_append, List.length_cons, List.length_nil] at hfree ⊢
    omega
  · rw [List.map_append]
    exact (List.perm_append_comm).trans (hperm.cons _)
  · obtain hm | hm := List.mem_cons.mp (live.subset hm)
    · exact h0 hm.symm
    · exact hzero hm

/-- A refusal by the parser takes a FREE place and makes no tag live (R38, R47). -/
theorem refuse (h : r.Accounts owners) (tag : Tag) (st : Status) (body : List Payload) (hfree : r.free ≠ 0) :
    ReplyQueue.Accounts { r with ready := r.ready ++ [⟨tag, st, body, true⟩] } owners := by
  obtain ⟨hlen, hperm, hnodup, hzero⟩ := h
  have live : ReplyQueue.liveTags { r with ready := r.ready ++ [⟨tag, st, body, true⟩] } = r.liveTags := by
    simp [ReplyQueue.liveTags]
  refine ⟨?_, hperm, live ▸ hnodup, live ▸ hzero⟩
  simp only [ReplyQueue.free, List.length_append, List.length_cons, List.length_nil] at hfree ⊢
  omega

/-- A reply whose trailer has been sent frees its place (R44, R48). -/
theorem free {p : Reply} {rest : List Reply} (h : r.Accounts owners) (hr : r.ready = p :: rest) :
    ReplyQueue.Accounts { r with ready := rest } owners := by
  obtain ⟨hlen, hperm, hnodup, hzero⟩ := h
  have live : (ReplyQueue.liveTags { r with ready := rest }).Sublist r.liveTags := by
    rw [ReplyQueue.liveTags, ReplyQueue.liveTags, hr]
    exact (List.Sublist.refl _).append (((List.sublist_cons_self p rest).filter _).map _)
  refine ⟨?_, hperm, hnodup.sublist live, fun h0 => hzero (live.subset h0)⟩
  rw [hr, List.length_cons] at hlen
  exact Nat.le_of_succ_le hlen

end ReplyQueue.Accounts

/-- With every place FREE nothing is owed (R49). -/
theorem ReplyQueue.accounts_reset : ReplyQueue.reset.Accounts [] :=
  ⟨Nat.zero_le _, .refl _, List.nodup_nil, List.not_mem_nil⟩

end Sys2Proof.Machine
end

section
/-! The law of the requests and their places (R38, R40, R43, R44, R46). -/

namespace Sys2Proof.Machine

/-! ## What of the request side a rule writes -/

/-- The Command Queue, the Executor, the Reply Queue and the pending commit (chapter 3, 4.3). -/
def State.requestStore (s : State) : List Queued × Executor × ReplyQueue × Option Commit :=
  (s.cmdq, s.executor, s.replies, s.commit)

section
variable (s : State)

/-! What the rules of the other requests write is not of the request side. -/

@[simp] theorem State.requestStore_setTiming (v : Timing) : (s.setTiming v).requestStore = s.requestStore := rfl
@[simp] theorem State.requestStore_setNotices (v : NoticeSide) : (s.setNotices v).requestStore = s.requestStore := rfl
@[simp] theorem State.requestStore_setStaged (v : Table 6 Staged) : (s.setStaged v).requestStore = s.requestStore := rfl
@[simp] theorem State.requestStore_setActive (v : Table 6 Active) : (s.setActive v).requestStore = s.requestStore := rfl
@[simp] theorem State.requestStore_setGroups (v : Table 3 Group) : (s.setGroups v).requestStore = s.requestStore := rfl
@[simp] theorem State.requestStore_setMixer (v : Mixer) : (s.setMixer v).requestStore = s.requestStore := rfl
@[simp] theorem State.requestStore_setMemory (v : Memory) : (s.setMemory v).requestStore = s.requestStore := rfl
@[simp] theorem State.requestStore_setRegions (v : Table 3 (Option Region)) : (s.setRegions v).requestStore = s.requestStore := rfl
@[simp] theorem State.requestStore_setCapture (v : Capture) : (s.setCapture v).requestStore = s.requestStore := rfl
@[simp] theorem State.requestStore_setPlayers (v : Table 1 Player) : (s.setPlayers v).requestStore = s.requestStore := rfl
@[simp] theorem State.requestStore_setWatches (v : Table 4 Watch) : (s.setWatches v).requestStore = s.requestStore := rfl
end

/-- Bringing the groups' counts up to date leaves the request side (R86). -/
@[simp] theorem State.requestStore_syncGroups (s : State) (old : Table 6 Active) :
    (s.syncGroups old).requestStore = s.requestStore := by
  obtain ⟨gs, n, f, e⟩ := s.syncGroups_frame old
  rw [e]
  rfl

/-- A stop of the capture leaves the request side (R146). -/
@[simp] theorem State.requestStore_stopCapture (s : State) (reason : EndReason) :
    (s.stopCapture reason).requestStore = s.requestStore := by
  obtain ⟨k, rs, n, e⟩ := s.stopCapture_frame reason
  rw [e]
  rfl

/-- A rule refuses, leaves an effect waiting, or is done with a state that has a property; it does not put its reply off. -/
def Taken.Answers (P : State → Prop) : Taken → Prop
  | .done t _ => P t
  | .deferred _ => False
  | .refused _ | .fenced _ _ => True

/-- A rule behind the common checks (R42). -/
theorem checked_answers {P : State → Prop} {α : Type} {fields : Option α} {act : α → Taken}
    (h : ∀ x, (act x).Answers P) : (checked fields act).Answers P := by
  cases fields with
  | none => trivial
  | some x => exact h x

/-- A request's rule leaves the request side, or is one of the three rules for a pending commit (R69, R75, R177). -/
theorem Queued.take_requestStore (q : Queued) (s : State) :
    (q.take s).Answers (fun t => t.requestStore = s.requestStore) ∨ q.take s = takeReset q.body s ∨
      (q.code = 12 ∧ q.take s = takeCommit q.tag q.body s) ∨ q.take s = takeCancelCommit q.body s := by
  simp only [Queued.take]
  split
  case h_3 => exact .inr (.inl rfl)
  case h_12 hc => exact .inr (.inr (.inl ⟨BitVec.eq_of_toNat_eq hc, rfl⟩))
  case h_13 => exact .inr (.inr (.inr rfl))
  case h_33 => exact .inl trivial
  all_goals refine .inl (checked_answers fun x => ?_)
  case h_2 | h_18 => cases x <;> rfl
  case h_1 | h_4 | h_17 | h_23 | h_26 | h_29 | h_32 => rfl
  case h_15 =>
    obtain ⟨g, step, interval⟩ := x
    simp only [Taken.Answers, State.rateGroup_eq rfl, State.requestStore]
  case h_16 => simp [Taken.Answers, State.putGroup]
  case h_28 =>
    simp only [State.endPlayer, State.returnRegion, Taken.Answers]
    repeat' split
    all_goals simp [State.putPlayer, State.putRegion]
  case h_5 | h_14 =>
    dsimp only
    repeat' split
    all_goals simp [Taken.Answers, State.putActive]
  all_goals repeat' split
  all_goals simp [Taken.Answers, State.putStaged, State.putRegion, State.putPlayer, State.putWatch]

/-! ## The law, and what is owed while a request is taken -/

/-- The law, with the Reply Queue's part said as its accounts. -/
theorem State.queueLaw_iff {s : State} : s.queueLaw ↔
    s.cmdq.length ≤ Config.commandQueueSize ∧ s.replies.Accounts s.owners ∧ s.fenceHeld = true := by
  simp only [State.queueLaw, ReplyQueue.Accounts, and_assoc]

/-- Between a request's taking and its reply its RESERVED place stands beside those of the owners (R41, R46). -/
def State.Owes (s : State) (tag : Tag) (code : Code) : Prop :=
  s.cmdq.length ≤ Config.commandQueueSize ∧ s.replies.Accounts ((tag, code) :: s.owners) ∧ s.executor = .idle

section
variable {s u : State}

/-- The law is read off the request side. -/
theorem State.queueLaw_congr (e : u.requestStore = s.requestStore) (h : s.queueLaw) : u.queueLaw := by
  simp only [State.requestStore, Prod.mk.injEq] at e
  obtain ⟨hq, hx, hr, hc⟩ := e
  simpa only [State.queueLaw, State.owners, State.fenceHeld, hq, hx, hr, hc] using h

/-- What is owed is read off the request side. -/
theorem State.owes_congr {tag : Tag} {code : Code} (e : u.requestStore = s.requestStore) (h : s.Owes tag code) :
    u.Owes tag code := by
  simp only [State.requestStore, Prod.mk.injEq] at e
  obtain ⟨hq, hx, hr, hc⟩ := e
  simpa only [State.Owes, State.owners, hq, hx, hr, hc] using h

/-- No fence is held up where the Executor is IDLE (R44). -/
theorem State.fenceHeld_idle (h : s.executor = .idle) : s.fenceHeld = true := by
  simp only [State.fenceHeld, h]

/-- A fence keeps its READY reply where replies join it (R44, R48). -/
theorem State.fenceHeld_append {l : List Reply} (hx : u.executor = s.executor)
    (hr : u.replies.ready = s.replies.ready ++ l) (h : s.fenceHeld = true) : u.fenceHeld = true := by
  simp only [State.fenceHeld, hx, hr] at h ⊢
  split at h
  · rw [List.any_append, h, Bool.true_or]
  · rfl
  · rfl

/-- The pending COMMIT is one of the owners (R46). -/
theorem State.owners_perm {c : Commit} (hq : u.cmdq = s.cmdq) (hc : s.commit = some c) (hn : u.commit = none) :
    s.owners.Perm ((c.tag, 12) :: u.owners) := by
  simp only [State.owners, hq, hc, hn, Option.map_some, Option.map_none, Option.toList_some, Option.toList_none,
    List.append_nil]
  exact List.perm_append_comm

/-- The end of the pending commit answers it (R71, R73, R75). -/
theorem State.queueLaw_commitEnds {c : Commit} {st : Status} {body : List Payload} (hq : u.cmdq = s.cmdq)
    (hx : u.executor = s.executor) (hc : s.commit = some c) (hn : u.commit = none)
    (hr : u.replies = s.replies.makeReady c.tag st body) (h : s.queueLaw) : u.queueLaw := by
  obtain ⟨hlen, accounts, fence⟩ := State.queueLaw_iff.mp h
  refine State.queueLaw_iff.mpr ⟨hq ▸ hlen, ?_, State.fenceHeld_append hx (by rw [hr]; rfl) fence⟩
  rw [hr]
  exact (accounts.perm (State.owners_perm hq hc hn)).makeReady st body

/-- A commit that ends while a request is taken is answered ahead of it (R75, R177). -/
theorem State.owes_endCommit {c : Commit} {tag : Tag} {code : Code} (st : Status) (hc : s.commit = some c)
    (h : s.Owes tag code) : (s.endCommit c st).Owes tag code := by
  obtain ⟨hlen, accounts, idle⟩ := h
  have owned : s.owners.Perm ((c.tag, 12) :: (s.setCommit none).owners) := State.owners_perm rfl hc rfl
  have both : ((tag, code) :: s.owners).Perm ((c.tag, 12) :: (tag, code) :: (s.setCommit none).owners) :=
    (owned.cons _).trans (.swap ..)
  exact ⟨hlen, (accounts.perm both).makeReady st _, idle⟩

/-- The reply of the request that was taken settles what is owed (R42, R47). -/
theorem State.queueLaw_reply {tag : Tag} {code : Code} (st : Status) (body : List Payload) (h : s.Owes tag code) :
    (s.reply tag st body).queueLaw := by
  obtain ⟨hlen, accounts, idle⟩ := h
  exact State.queueLaw_iff.mpr ⟨hlen, accounts.makeReady st body, State.fenceHeld_idle idle⟩

/-- A fence begins with its reply READY (R44). -/
theorem State.queueLaw_fenced {tag : Tag} {code : Code} (eff : Effect) (body : List Payload) (h : s.Owes tag code) :
    ((s.reply tag .done body).setExecutor (.fenced tag eff false)).queueLaw := by
  obtain ⟨hlen, accounts, -⟩ := h
  refine State.queueLaw_iff.mpr ⟨hlen, accounts.makeReady .done body, ?_⟩
  simp [State.fenceHeld, State.reply, ReplyQueue.makeReady]

/-! ## Takings -/

/-- What a rule leaves: a request that is done still owes its reply, and a COMMIT that waits owns its place (R42, R43). -/
def Taken.Settles (tag : Tag) (code : Code) : Taken → Prop
  | .done t _ => t.Owes tag code
  | .deferred t => t.queueLaw
  | .refused _ | .fenced _ _ => True

/-- RESET answers a commit that it cancels (R177). -/
theorem takeReset_settles {tag : Tag} {code : Code} (body : List Payload) (h : s.Owes tag code) :
    (takeReset body s).Settles tag code := by
  simp only [takeReset, checked]
  split
  · trivial
  · rename_i scope _
    cases scope with
    | full => trivial
    | routing =>
      simp only [Taken.Settles, State.resetRouting]
      cases hc : s.commit with
      | none => exact State.owes_congr (s := s) rfl h
      | some c => exact State.owes_congr (s := s.endCommit c .commitCancelled) rfl (State.owes_endCommit _ hc h)

/-- COMMIT keeps its place as the pending record (R43, R69). -/
theorem takeCommit_settles {tag : Tag} (body : List Payload) (h : s.Owes tag 12) :
    (takeCommit tag body s).Settles tag 12 := by
  obtain ⟨hlen, accounts, idle⟩ := h
  simp only [takeCommit, checked]
  repeat' split
  · trivial
  · trivial
  · rename_i hnone
    rw [Option.not_isSome_iff_eq_none] at hnone
    refine State.queueLaw_iff.mpr ⟨hlen, accounts.perm ?_, State.fenceHeld_idle idle⟩
    simpa [State.owners, hnone] using (List.perm_append_singleton _ _).symm

/-- CANCEL COMMIT answers the commit ahead of itself (R75). -/
theorem takeCancelCommit_settles {tag : Tag} {code : Code} (body : List Payload) (h : s.Owes tag code) :
    (takeCancelCommit body s).Settles tag code := by
  simp only [takeCancelCommit, checked]
  repeat' split
  · trivial
  · trivial
  · rename_i hc
    exact State.owes_endCommit _ hc h

/-- A taking and its completion keep the accounts (R42 to R44). -/
theorem State.queueLaw_complete {q : Queued} (h : s.Owes q.tag q.code) :
    (s.complete q.tag (q.outcome s)).queueLaw := by
  have settles : (q.outcome s).Settles q.tag q.code := by
    simp only [Queued.outcome]
    split
    · trivial
    obtain left | e | ⟨hc, e⟩ | e := q.take_requestStore s
    · cases ht : q.take s with
      | refused | fenced => trivial
      | done t body =>
        rw [ht] at left
        exact State.owes_congr left h
      | deferred t =>
        rw [ht] at left
        exact left.elim
    · exact e ▸ takeReset_settles q.body h
    · rw [e, hc]
      exact takeCommit_settles q.body (hc ▸ h)
    · exact e ▸ takeCancelCommit_settles q.body h
  cases ho : q.outcome s with
  | refused st => exact State.queueLaw_reply st [] h
  | done t body =>
    rw [ho] at settles
    exact State.queueLaw_reply .done body settles
  | deferred t =>
    rw [ho] at settles
    exact settles
  | fenced eff body => exact State.queueLaw_fenced eff body h

end

end Sys2Proof.Machine
end

section
/-! Every operation of a step keeps the law of the requests and their places (R28, R34, R38, R40 to R49). -/

namespace Sys2Proof.Machine

section
variable {s u : State}

/-! ## Acceptance -/

/-- The Executor working off its queue keeps the law (R41). -/
theorem State.queueLaw_drain (n : Nat) (h : s.queueLaw) : (s.drain n).queueLaw := by
  refine State.drain_keeps (fun s q rest idle hq hs => ?_) n s h
  obtain ⟨hlen, accounts, -⟩ := State.queueLaw_iff.mp hs
  obtain ⟨m, f, e⟩ := s.postEnds_frame
  refine State.queueLaw_complete (s := s.postEnds.setCmdq rest) ⟨?_, ?_, ?_⟩
  · rw [hq] at hlen
    exact Nat.le_of_succ_le hlen
  · rw [State.owners, hq] at accounts
    rw [e]
    exact accounts
  · rw [e]
    exact idle

/-- A request that passes the last trailer checks has a tag of its own, and the Command Queue has a place for it (R28,
checks 4, 6 and 7). -/
theorem State.lateCheck_none {tag : Tag} {code : Code} (h : s.lateCheck tag code = none) :
    tag ≠ 0 ∧ s.replies.live tag = false ∧ s.cmdq.length < Config.commandQueueSize := by
  simp only [State.lateCheck] at h
  split at h
  · cases h
  rename_i h0
  split at h
  · cases h
  split at h
  · cases h
  rename_i hlive
  split at h
  · cases h
  rename_i hroom
  exact ⟨h0, Bool.eq_false_iff.mpr hlive, Nat.lt_of_not_le hroom⟩

/-- The outcome of the trailer checks keeps the law (R28, R47). -/
theorem State.queueLaw_settle {tag : Tag} {code : Code} {verdict : Option Status} (res : Bool) (body : List Payload)
    (hv : verdict = none → s.lateCheck tag code = none) (h : s.queueLaw) :
    (s.settle tag code res body verdict).queueLaw := by
  obtain ⟨hlen, accounts, fence⟩ := State.queueLaw_iff.mp h
  simp only [State.settle]
  split
  · exact h
  rename_i hfree
  split
  · refine State.queueLaw_iff.mpr ⟨hlen, accounts.refuse tag _ (refusalBody code) hfree, ?_⟩
    exact State.fenceHeld_append (s := s) rfl rfl fence
  · obtain ⟨h0, hlive, hroom⟩ := State.lateCheck_none (hv rfl)
    refine State.queueLaw_drain _ (State.queueLaw_iff.mpr ⟨?_, (accounts.reserve code hfree h0 hlive).perm ?_, fence⟩)
    · simpa using hroom
    · simp only [State.owners, State.setCmdq_cmdq, State.setCmdq_commit, State.setReplies_commit, List.map_append,
        List.append_assoc]
      exact List.perm_middle.symm

/-! ## The parser -/

/-- An abandonment leaves the request side (R30). -/
theorem State.requestStore_abandon (s : State) (reason : Reason) (frame : FrameNo) :
    (s.abandon reason frame).requestStore = s.requestStore := by
  obtain ⟨p, n, e⟩ := s.abandon_frame reason frame
  rw [e]
  rfl

/-- A gap word leaves the request side (R27). -/
theorem State.requestStore_takeGap (s : State) : s.takeGap.requestStore = s.requestStore := by
  simp only [State.takeGap]
  repeat' split
  · rfl
  · exact s.requestStore_abandon _ _
  · rfl

/-- A trailer keeps the law: a request is accepted where the checks on the state as it stands all pass (R28). -/
theorem State.queueLaw_takeTrailer (m : Rx) (echo : Tag) (crc : BitVec 16) (h : s.queueLaw) :
    (s.takeTrailer m echo crc).queueLaw := by
  have hunt : ∀ p, (s.setParser p).queueLaw := fun p => State.queueLaw_congr (s := s) rfl h
  simp only [State.takeTrailer]
  repeat' split
  · exact State.queueLaw_settle _ _ (fun hv => by cases hv) (hunt _)
  · exact State.queueLaw_settle _ _ (fun hv => by cases hv) (hunt _)
  · exact State.queueLaw_settle _ _ (fun hv => by cases hv) (hunt _)
  · exact State.queueLaw_settle _ _ id (hunt _)

/-- A link resync keeps the law: it drops every request, and a fence whose trailer has gone stays (R34, R49). -/
theorem State.queueLaw_resync (s : State) : s.resync.queueLaw := by
  refine State.queueLaw_iff.mpr ⟨Nat.zero_le _, ReplyQueue.accounts_reset, ?_⟩
  show State.fenceHeld (s.resync) = true
  have executor : s.resync.executor = if s.executor.released then .idle else s.executor := rfl
  simp only [State.fenceHeld, executor]
  cases s.executor with
  | idle => rfl
  | fenced tag eff out => cases out <;> rfl

/-- The parser's word keeps the law (R22 to R28, R33). -/
theorem State.queueLaw_parserWord (w : LinkBits) (h : s.queueLaw) : (s.parserWord w).queueLaw := by
  have parser : ∀ p, (s.setParser p).queueLaw := fun p => State.queueLaw_congr (s := s) rfl h
  have gap : ∀ p, (s.setParser p).takeGap.queueLaw := fun p =>
    State.queueLaw_congr (State.requestStore_takeGap _) (parser p)
  have abandoned : ∀ p reason frame, ((s.setParser p).abandon reason frame).queueLaw := fun p reason frame =>
    State.queueLaw_congr (State.requestStore_abandon _ _ _) (parser p)
  simp only [State.parserWord]
  split
  · split
    · exact s.queueLaw_resync
    · exact gap _
  · exact gap _
  · simp only [State.takeHeader]
    split
    · exact State.queueLaw_congr rfl (abandoned _ _ _)
    · exact State.queueLaw_congr rfl (abandoned _ _ _)
  · repeat' split
    · exact State.queueLaw_congr rfl h
    · exact State.queueLaw_congr rfl h
    · exact abandoned _ _ _
  · split
    · exact State.queueLaw_congr rfl h
    · exact State.queueLaw_takeTrailer _ _ _ (parser _)

/-! ## Parts of an event -/

/-- The commit test keeps the law: the pending COMMIT keeps its place until it is answered (R71, R73). -/
theorem State.queueLaw_commitStep (arrival : Bool) (h : s.queueLaw) : (s.commitStep arrival).queueLaw := by
  simp only [State.commitStep]
  split
  · exact h
  rename_i c hc
  split
  · obtain ⟨gs, n, f, e⟩ := s.applyCommit_frame c
    rw [e]
    exact State.queueLaw_commitEnds (s := s) (c := c) rfl rfl hc rfl rfl h
  · split
    · exact State.queueLaw_commitEnds (s := s) (c := c) rfl rfl hc rfl rfl h
    · obtain ⟨hlen, accounts, fence⟩ := State.queueLaw_iff.mp h
      rw [State.owners, hc] at accounts
      exact State.queueLaw_iff.mpr ⟨hlen, accounts, fence⟩

/-- A freed place keeps the law: a fence that loses its READY reply has had its trailer sent (R44, R48). -/
theorem State.queueLaw_freePlace (h : s.queueLaw) : s.freePlace.queueLaw := by
  cases hr : s.replies.ready with
  | nil => simpa only [State.freePlace, hr] using h
  | cons r rest =>
    obtain ⟨hlen, accounts, fence⟩ := State.queueLaw_iff.mp h
    rw [State.freePlace_cons hr]
    refine State.queueLaw_iff.mpr ⟨hlen, accounts.free hr, ?_⟩
    simp only [State.fenceHeld, State.setExecutor_executor, State.setExecutor_replies, State.setReplies_replies]
    cases hx : s.executor with
    | idle => rfl
    | fenced tag eff out =>
      cases out with
      | true => rfl
      | false =>
        by_cases own : r.refusal = false ∧ r.tag = tag
        · simp only [Executor.afterTrailer, if_pos own]
        · simp only [State.fenceHeld, hx, hr, List.any_cons, Bool.or_eq_true] at fence
          simp only [Executor.afterTrailer, if_neg own]
          refine fence.resolve_left fun held => own ?_
          simp only [Bool.and_eq_true, beq_iff_eq, Bool.not_eq_true'] at held
          exact ⟨held.1.2, held.1.1⟩

/-- A word of a message in progress keeps the law. -/
theorem State.queueLaw_sendWord (m : OutMessage) (i : Nat) (h : s.queueLaw) : (s.sendWord m i).1.queueLaw := by
  simp only [State.sendWord]
  repeat' split
  · exact State.queueLaw_freePlace (State.queueLaw_congr (s := s) rfl h)
  · exact State.queueLaw_congr (s := s) rfl h
  · exact State.queueLaw_congr (s := s) rfl h

/-- The composer's word keeps the law. -/
theorem State.queueLaw_emitWord (h : s.queueLaw) : s.emitWord.queueLaw := by
  have next : s.nextWord.1.queueLaw := by
    simp only [State.nextWord]
    split
    · exact State.queueLaw_sendWord _ _ h
    repeat' split
    · exact State.queueLaw_sendWord _ _ (State.queueLaw_congr (s := s) rfl h)
    · exact h
    · exact State.queueLaw_sendWord _ _ (State.queueLaw_congr (s := s) rfl h)
    · exact h
    · exact h
  simp only [State.emitWord]
  split
  · exact State.queueLaw_congr (s := s.nextWord.1) rfl next
  · exact State.queueLaw_congr (s := s) rfl h
  all_goals exact h

/-- With the Executor back at IDLE no fence is held up (R44). -/
theorem State.queueLaw_unfenced (hq : u.cmdq = s.cmdq) (hr : u.replies = s.replies) (hc : u.commit = s.commit)
    (hx : u.executor = .idle) (h : s.queueLaw) : u.queueLaw := by
  obtain ⟨hlen, accounts, -⟩ := State.queueLaw_iff.mp h
  refine State.queueLaw_iff.mpr ⟨hq ▸ hlen, ?_, State.fenceHeld_idle hx⟩
  rwa [State.owners, hq, hr, hc]

/-- The three effects keep the law (R17, R37, R179). -/
theorem State.queueLaw_takeEffect (h : s.queueLaw) : s.takeEffect.queueLaw := by
  simp only [State.takeEffect]
  repeat' split
  · simp only [State.moveLink, State.abandon_clear]
    exact State.queueLaw_unfenced (s := s) rfl rfl rfl rfl h
  · simp only [State.changeFormat]
    split
    · exact State.queueLaw_unfenced (s := s) rfl rfl rfl rfl h
    · rw [State.enterSearch_eq]
      exact State.queueLaw_unfenced (s := s) rfl rfl rfl rfl h
  · rw [State.fullReset_eq]
    exact State.queueLaw_iff.mpr ⟨Nat.zero_le _, ReplyQueue.accounts_reset, rfl⟩
  · exact h

/-- Every part of a timing event keeps the law. -/
theorem State.queueLaw_runPhase (s : State) (p : Phase) (h : s.queueLaw) : (s.runPhase p).queueLaw := by
  simp only [State.runPhase]
  split
  · exact h
  · rename_i c _
    cases p with
    | entryNotice | effectNotice =>
      obtain ⟨n, e⟩ := s.postEntry_frame c.entry; simp only [e]; exact h
    | entryParser | effectParser =>
      obtain ⟨p, n, e⟩ := s.parserEntry_frame c.entry; simp only [e]; exact h
    | group g => obtain ⟨a, gs, n, e⟩ := s.groupStep_frame g; simp only [e]; exact h
    | commitTest => exact State.queueLaw_commitStep _ h
    | player n => obtain ⟨ps, rs, f, e⟩ := s.playerStep_frame n; simp only [e]; exact h
    | playerNotice n => obtain ⟨ns, f, e⟩ := s.postEnd_frame c n; simp only [e]; exact h
    | output => obtain ⟨m, p, f, e⟩ := s.beginOutput_frame; simp only [e]; exact h
    | mixer =>
      cases hd : s.timing.state.driving with
      | false => simpa [State.mix, hd] using h
      | true => obtain ⟨n, e⟩ := s.mix_frame c hd; simp only [e]; exact h
    | watch w => obtain ⟨ws, n, f, e⟩ := s.watchStep_frame c w; simp only [e]; exact h
    | capture => obtain ⟨m, k, rs, n, e⟩ := s.captureStep_frame c; simp only [e]; exact h
    | parser => exact State.queueLaw_parserWord _ h
    | effect => exact State.queueLaw_takeEffect h
    | drain => exact State.queueLaw_drain 1 h
    | word => exact State.queueLaw_emitWord h

end

/-- Every operation that a step is made of keeps the law. -/
theorem State.queueLaw_kept : Kept State.queueLaw where
  frame _ _ h := h
  phase := State.queueLaw_runPhase
  deliver _ _ _ h := State.queueLaw_settle _ _ id h
  timing _ _ h := h
  release _ h := h
  restart s h := by rw [State.markRestart_eq]; exact h
  reset _ _ := State.reset_queueLaw
  pending _ _ h := h

/-- Settles O8: the places and their owners agree after every operation, and so after every step. -/
theorem queueLawIsKept : Obligations.QueueLawIsKept :=
  fun _ _ h hstep => State.queueLaw_kept.step h hstep

end Sys2Proof.Machine
end

section
/-! What each movement makes of a position: its state follows from its effective target, and in a jump group it stands
still (R62, R72, R83, R84, R88, R92, R93). -/

namespace Sys2Proof.Machine

/-- A contributor that follows its effective target is in the state that follows from it (R62). -/
theorem follow_follows (muted jump : Bool) (c : Contrib) (cur : Gain) :
    (follow muted jump c cur).follows muted = true := by
  simp only [follow]
  split
  · rename_i arrived
    exact beq_iff_eq.mpr arrived
  · rename_i away
    split
    · exact beq_self_eq_true _
    · exact bne_iff_ne.mpr away

/-- In a jump group a contributor stands at its effective target at once (R62, R93). -/
theorem follow_jump (muted : Bool) (c : Contrib) (cur : Gain) :
    follow muted true c cur = .steady c (effective muted c) := by
  simp only [follow]
  split
  · rename_i arrived
    rw [arrived]
  · rfl

/-- A completed drain leaves a position in the state that follows from its effective target (R84). -/
theorem drainEnd_follows (muted jump : Bool) (pend : Option Contrib) :
    (drainEnd muted jump pend).follows muted = true := by
  cases pend with
  | none => rfl
  | some c => exact follow_follows muted jump c 0

namespace Position

variable {p : Position} {muted : Bool}

/-- A movement completed at once leaves the state that follows (R92). -/
theorem complete_follows (h : p.follows muted = true) : (p.complete muted).follows muted = true := by
  cases p with
  | empty | steady => exact h
  | ramping c cur => exact beq_self_eq_true _
  | draining c cur pend => exact drainEnd_follows muted true pend

/-- A movement completed at once moves no more (R92). -/
theorem complete_still (p : Position) (muted : Bool) : (p.complete muted).moving = false := by
  cases p with
  | empty | steady | ramping => rfl
  | draining c cur pend =>
    cases pend with
    | none => rfl
    | some q => simp only [Position.complete, drainEnd, follow_jump, Position.moving]

/-- An expiry leaves the state that follows (R83, R84). -/
theorem expire_follows (step : Nat) (jump : Bool) (h : p.follows muted = true) :
    (p.expire step muted jump).follows muted = true := by
  cases p with
  | empty | steady => exact h
  | ramping c cur =>
    simp only [Position.expire]
    split
    · rename_i arrived
      exact beq_iff_eq.mpr arrived
    · rename_i away
      exact bne_iff_ne.mpr away
  | draining c cur pend =>
    simp only [Position.expire]
    split
    · exact drainEnd_follows muted jump pend
    · rfl

/-- A mute leaves the state that follows from the effective targets under it (R88). -/
theorem remute_follows (p : Position) (muted jump : Bool) : (p.remute muted jump).follows muted = true := by
  cases p with
  | empty | draining => rfl
  | steady c cur | ramping c cur => exact follow_follows muted jump c cur

/-- In a jump group a mute leaves a position that stands still still (R88, R93). -/
theorem remute_still (muted : Bool) (h : p.moving = false) : (p.remute muted true).moving = false := by
  cases p with
  | empty => rfl
  | ramping | draining => cases h
  | steady c cur => simp only [Position.remute, follow_jump, Position.moving]

/-- SET GAIN leaves the state that follows (R77). -/
theorem setGain_follows {jump : Bool} {code : Gain} {q : Position} (hq : p.setGain muted jump code = some q) :
    q.follows muted = true := by
  cases p with
  | empty => cases hq
  | steady c cur | ramping c cur => cases hq; exact follow_follows muted jump _ cur
  | draining c cur pend =>
    cases pend with
    | none => cases hq
    | some q' => cases hq; rfl

/-- In a jump group SET GAIN leaves a position that stands still still (R77, R93). -/
theorem setGain_still {code : Gain} {q : Position} (hq : p.setGain muted true code = some q) (h : p.moving = false) :
    q.moving = false := by
  cases p with
  | empty => cases hq
  | ramping | draining => cases h
  | steady c cur => cases hq; rw [follow_jump]; rfl

/-- The comparison with a staged record leaves the state that follows (R72). -/
theorem compare_follows (p : Position) (muted jump : Bool) (rec : Option Contrib) :
    (p.compare muted jump rec).follows muted = true := by
  have matched : ∀ (same : Bool) c old cur,
      (if same then follow muted jump c cur else .draining old cur (some c)).follows muted = true := by
    intro same c old cur
    cases same
    · rfl
    · exact follow_follows muted jump c cur
  cases p <;> cases rec
  case empty.none | steady.none | ramping.none | draining.none => rfl
  case empty.some c => exact follow_follows muted jump c 0
  all_goals exact matched _ _ _ _

/-- What the application of a commit makes of a position is in the state that follows (R72). -/
theorem adopt_follows (p : Position) (muted jump : Bool) (rec : Option Contrib) :
    (p.adopt muted jump rec).follows muted = true := by
  cases jump
  · exact compare_follows p muted false rec
  · exact complete_follows (compare_follows p muted true rec)

/-- After a commit no position of a jump group moves (R72). -/
theorem adopt_still (p : Position) (muted : Bool) (rec : Option Contrib) : (p.adopt muted true rec).moving = false :=
  complete_still _ muted

end Position

end Sys2Proof.Machine
end

section
/-! The law of the group records and the positions (R62, R85 to R87, R93). -/

namespace Sys2Proof.Machine

/-! ## Records and counts -/

/-- A record whose count may be brought up to `n`: its countdown runs exactly where its old count is above 0, and a jump
group has no movers to count (R85, R86, R93). -/
def Group.Countable (r : Group) (n : Nat) : Prop :=
  (r.step = 1 ∨ r.step = 2 ∨ r.step = 4 ∨ r.step = 8) ∧ r.interval ≤ 64 ∧ r.countdown ≤ r.interval ∧
  (r.countdown = 0 ↔ r.moving = 0) ∧ (r.interval = 0 → n = 0)

/-- A count brought up to date is legal (R86). -/
theorem Group.legal_counted {r : Group} {n : Nat} (h : r.Countable n) : (r.counted n).legal n := by
  obtain ⟨hstep, hinterval, hdown, hrun, hjump⟩ := h
  refine ⟨hstep, hinterval, rfl, ?_, ?_⟩
  · simp only [Group.counted]
    repeat' split
    all_goals omega
  · simp only [Group.counted]
    repeat' split
    all_goals omega

/-- A jump group has no movers (R93). -/
theorem Group.legal.jump {r : Group} {n : Nat} (h : r.legal n) (hj : r.interval = 0) : n = 0 := by
  obtain ⟨-, -, hn, hdown, hrun⟩ := h
  omega

/-- A legal record may be brought up to any count that the group can have. -/
theorem Group.legal.countable {r : Group} {n m : Nat} (h : r.legal n) (hj : r.interval = 0 → m = 0) :
    r.Countable m := by
  obtain ⟨hstep, hinterval, -, hdown, hrun⟩ := h
  exact ⟨hstep, hinterval, hdown, hrun, hj⟩

/-- The movers of a group are those of its own entries (R86). -/
theorem movers_congr {g : GroupNo} {t u : Table 6 Active} (hg : ∀ i, (u.row i).group = (t.row i).group)
    (h : ∀ i, (t.row i).group = g → u.row i = t.row i) : movers g u = movers g t := by
  simp only [movers, Table.toList_eq, List.map_map]
  congr 1
  refine List.map_congr_left fun i _ => ?_
  simp only [Function.comp_apply, hg]
  split
  · rename_i hi
    rw [h i hi]
  · rfl

/-- Every position's state follows from its effective target under the group records given (R62). -/
def Follow (groups : Table 3 Group) (t : Table 6 Active) : Prop :=
  ∀ (i : Slot) (k : BitVec 2), ((t.row i).pos.row k).follows (groups.row (t.row i).group).muted = true

/-- The positions follow as well under records that mute the same groups. -/
theorem Follow.congr {groups groups' : Table 3 Group} {t : Table 6 Active} (h : Follow groups t)
    (hm : ∀ g, (groups'.row g).muted = (groups.row g).muted) : Follow groups' t := fun i k => by
  rw [hm]
  exact h i k

/-- A replaced record mutes as it is told. -/
theorem muted_put (groups : Table 3 Group) (g h : GroupNo) (r : Group) :
    ((groups.put g r).row h).muted = if h = g then r.muted else (groups.row h).muted := by
  rw [Table.row_put]
  split <;> rfl

/-- The positions of one group are replaced by ones that follow under its record. -/
theorem Follow.mapGroup {groups groups' : Table 3 Group} {t : Table 6 Active} {g : GroupNo} {f : Position → Position}
    (h : Follow groups t) (hm : ∀ g', g' ≠ g → (groups'.row g').muted = (groups.row g').muted)
    (hf : ∀ p : Position, p.follows (groups.row g).muted = true → (f p).follows (groups'.row g).muted = true) :
    Follow groups' (mapGroup g f t) := by
  intro i k
  rw [mapGroup_group]
  by_cases hi : (t.row i).group = g
  · have := h i k
    rw [hi] at this
    rw [mapGroup_pos hi, hi]
    exact hf _ this
  · rw [mapGroup_row_other hi, hm _ hi]
    exact h i k

section
variable {s u : State}

/-- The law is read off the group records and the Active Table. -/
theorem State.rampLaw_congr (hg : u.groups = s.groups) (ha : u.active = s.active) (h : s.rampLaw) : u.rampLaw := by
  rwa [State.rampLaw, hg, ha]

/-- Bringing the counts up to date makes the law hold (R86). -/
theorem State.rampLaw_syncGroups (old : Table 6 Active)
    (hg : ∀ g, (s.groups.row g).Countable (movers g s.active)) (hf : Follow s.groups s.active) :
    (s.syncGroups old).rampLaw := by
  rw [State.rampLaw, State.syncGroups_active]
  refine ⟨fun g => ?_, fun i k => ?_⟩
  · rw [State.syncGroups_row]
    exact Group.legal_counted (hg g)
  · rw [State.syncGroups_row]
    exact hf i k

/-- A jump group's positions stand still (R93). -/
theorem State.still_of_jump {i : Slot} (h : s.rampLaw) (hj : (s.groups.row (s.active.row i).group).interval = 0)
    (k : BitVec 2) : ((s.active.row i).pos.row k).moving = false :=
  movers_eq_zero_iff.mp ((h.1 _).jump hj) i k rfl

/-- A reply leaves the groups and the Active Table. -/
theorem State.rampLaw_reply (tag : Tag) (st : Status) (body : List Payload) (h : s.rampLaw) :
    (s.reply tag st body).rampLaw := h

/-- With the groups and positions of reset the law holds (R61, R85). -/
theorem State.rampLaw_reset (hg : u.groups = Table.tab fun _ => Group.reset)
    (ha : u.active = Table.tab fun _ => Active.reset) : u.rampLaw :=
  State.rampLaw_congr (s := State.reset) hg ha State.reset_rampLaw

/-! ## The frame step -/

/-- An expiry keeps the law (R83, R84, R87). -/
theorem State.rampLaw_expiry (g : GroupNo) (hm : (s.groups.row g).moving ≠ 0) (h : s.rampLaw) :
    (s.expiry g).rampLaw := by
  obtain ⟨a, ha⟩ : ∃ a, mapGroup g (Position.expire (s.groups.row g).step (s.groups.row g).muted
    (s.groups.row g).jump) s.active = a := ⟨_, rfl⟩
  rw [State.expiry_eq ha]
  refine ⟨fun g' => ?_, ?_⟩
  · by_cases hg : g' = g
    · subst hg
      obtain ⟨hstep, hinterval, -, hdown, hrun⟩ := h.1 g'
      rw [Table.row_put, if_pos rfl]
      refine ⟨hstep, hinterval, rfl, ?_, ?_⟩
      · dsimp only
        split <;> omega
      · dsimp only
        split <;> omega
    · have others : movers g' a = movers g' s.active := by
        subst ha
        exact movers_congr (fun i => mapGroup_group ..) fun i hi => mapGroup_row_other (hi ▸ hg)
      rw [Table.row_put, if_neg hg, others]
      exact h.1 g'
  · subst ha
    refine Follow.mapGroup (groups := s.groups) h.2 (fun g' hg' => by rw [muted_put, if_neg hg']) fun p hp => ?_
    rw [muted_put, if_pos rfl]
    exact Position.expire_follows _ _ hp

/-- A group's frame step keeps the law (R87). -/
theorem State.rampLaw_groupStep (g : GroupNo) (h : s.rampLaw) : (s.groupStep g).rampLaw := by
  by_cases hm : (s.groups.row g).moving = 0
  · rwa [State.groupStep_still hm]
  by_cases hc : (s.groups.row g).countdown ≤ 1
  · rw [State.groupStep_expires (by simp [Group.expiring, hc]; omega)]
    exact State.rampLaw_expiry g hm h
  · rw [State.groupStep_counts (by omega) (by omega)]
    refine ⟨fun g' => ?_, Follow.congr (groups := s.groups) h.2 fun g' => ?_⟩
    · rw [State.setGroups_groups, State.setGroups_active, Table.row_put]
      split
      · rename_i hg
        obtain ⟨hstep, hinterval, hmoving, hdown, hrun⟩ := h.1 g
        rw [hg]
        exact ⟨hstep, hinterval, hmoving, by dsimp only; omega, by dsimp only; omega⟩
      · exact h.1 g'
    · rw [State.setGroups_groups, muted_put]
      split
      · rename_i hg
        rw [hg]
      · rfl

/-! ## The commit -/

/-- The application of a commit keeps the law: each dirty entry enters its group as the group's record has it (R71, R72,
R86). -/
theorem State.rampLaw_applyCommit (c : Commit) (h : s.rampLaw) : (s.applyCommit c).rampLaw := by
  obtain ⟨t, ht⟩ : ∃ t, (Table.tab fun i => (s.staged.row i).apply s.groups (s.active.row i)) = t := ⟨_, rfl⟩
  have row : ∀ i, t.row i = (s.staged.row i).apply s.groups (s.active.row i) := fun i => by rw [← ht, Table.row_tab]
  simp only [State.applyCommit, ht]
  refine State.rampLaw_reply _ _ _ (State.rampLaw_syncGroups _ ?_ ?_)
  all_goals simp only [State.setCommit_groups, State.setStaged_groups, State.setActive_groups,
    State.setCommit_active, State.setStaged_active, State.setActive_active]
  · refine fun g => (h.1 g).countable fun hj => movers_eq_zero_iff.mpr fun i k => ?_
    rw [row, Staged.apply]
    split
    · rintro rfl
      have jump : (s.groups.row (s.staged.row i).group).jump = true := beq_iff_eq.mpr hj
      simp only [Table.row_tab, jump]
      exact Position.adopt_still _ _ _
    · rintro rfl
      exact State.still_of_jump h hj k
  · intro i k
    rw [row, Staged.apply]
    split
    · simp only [Table.row_tab]
      exact Position.adopt_follows _ _ _ _
    · exact h.2 i k

/-- The commit test keeps the law (R70 to R73). -/
theorem State.rampLaw_commitStep (arrival : Bool) (h : s.rampLaw) : (s.commitStep arrival).rampLaw := by
  simp only [State.commitStep]
  repeat' split
  · exact h
  · exact State.rampLaw_applyCommit _ h
  · exact h
  · exact h

/-! ## The requests for gains and groups -/

/-- SET GAIN keeps the law (R77, R86). -/
theorem takeSetGain_rampLaw (body : List Payload) (h : s.rampLaw) :
    (takeSetGain body s).Leaves State.rampLaw := by
  refine checked_leaves ?_
  rintro ⟨i, k, code⟩ -
  dsimp only
  split
  · trivial
  rename_i p hp
  obtain ⟨t, ht⟩ : ∃ t, s.active.put i { s.active.row i with pos := (s.active.row i).pos.put k p } = t := ⟨_, rfl⟩
  have group : ∀ j, (t.row j).group = (s.active.row j).group := fun j => by
    rw [← ht, Table.row_put]
    split
    · rename_i hj
      rw [hj]
    · rfl
  have position : ∀ j n, (t.row j).pos.row n =
      if j = i ∧ n = k then p else (s.active.row j).pos.row n := fun j n => by
    rw [← ht, Table.row_put]
    by_cases hj : j = i
    · subst hj
      simp [Table.row_put]
    · simp [hj]
  simp only [State.putActive, ht]
  refine State.rampLaw_syncGroups _ (fun g => ?_) fun j n => ?_
  · refine (h.1 g).countable fun hj => movers_eq_zero_iff.mpr fun j n => ?_
    simp only [State.setActive_active, group, position]
    rintro rfl
    split
    · rename_i at_k
      obtain ⟨rfl, rfl⟩ := at_k
      have jump : (s.groups.row (s.active.row j).group).jump = true := beq_iff_eq.mpr hj
      exact Position.setGain_still (jump ▸ hp) (State.still_of_jump h hj n)
    · exact State.still_of_jump h hj n
  · simp only [State.setActive_active, State.setActive_groups, group, position]
    split
    · rename_i at_k
      obtain ⟨rfl, rfl⟩ := at_k
      exact Position.setGain_follows hp
    · exact h.2 j n

/-- GROUP MUTE keeps the law (R86, R88). -/
theorem takeGroupMute_rampLaw (body : List Payload) (h : s.rampLaw) :
    (takeGroupMute body s).Leaves State.rampLaw := by
  refine checked_leaves ?_
  rintro ⟨g, muted⟩ -
  refine State.rampLaw_syncGroups _ (fun g' => ?_) ?_
  · have countable : ∀ n, ((s.groups.row g').interval = 0 → n = 0) →
        ((s.groups.put g { s.groups.row g with muted := muted }).row g').Countable n := by
      intro n hn
      rw [Table.row_put]
      split
      · rename_i hg
        subst hg
        exact (h.1 g').countable hn
      · exact (h.1 g').countable hn
    refine countable _ fun hj => movers_eq_zero_iff.mpr fun i k hi => ?_
    simp only [State.setActive_active, mapGroup_group] at hi ⊢
    have still := State.still_of_jump h (hi.symm ▸ hj) k
    by_cases hg : (s.active.row i).group = g
    · have jump : (s.groups.row g).jump = true := beq_iff_eq.mpr (hg ▸ hi ▸ hj)
      rw [mapGroup_pos hg]
      simp only [Group.jump] at jump ⊢
      rw [jump]
      exact Position.remute_still muted still
    · rwa [mapGroup_row_other hg]
  · refine Follow.mapGroup (groups := s.groups) h.2 (fun g' hg' => ?_) fun p _ => ?_
    · exact (muted_put _ _ _ _).trans (if_neg hg')
    · have : ((s.groups.put g { s.groups.row g with muted := muted }).row g).muted = muted := by
        rw [muted_put, if_pos rfl]
      exact this.symm ▸ Position.remute_follows p muted _

/-- A SET GROUP that is read brings a step of 1, 2, 4 or 8 and an interval up to 64 (R91). -/
theorem readSetGroup_bounds {body : List Payload} {g : GroupNo} {step interval : Nat}
    (h : readSetGroup body = some (g, step, interval)) :
    (step = 1 ∨ step = 2 ∨ step = 4 ∨ step = 8) ∧ interval ≤ 64 := by
  unfold readSetGroup at h
  split at h
  · dsimp only at h
    split at h
    · rename_i hok
      obtain ⟨-, rfl, rfl⟩ := h
      simp only [Bool.and_eq_true, Bool.or_eq_true, beq_iff_eq, decide_eq_true_eq, or_assoc] at hok
      obtain ⟨⟨-, hstep⟩, hinterval⟩ := hok
      exact ⟨hstep, hinterval⟩
    · cases h
  · cases h

/-- SET GROUP keeps the law: a group that becomes a jump group has its movements completed (R87, R91, R92, R93). -/
theorem takeSetGroup_rampLaw (body : List Payload) (h : s.rampLaw) :
    (takeSetGroup body s).Leaves State.rampLaw := by
  refine checked_leaves ?_
  rintro ⟨g, step, interval⟩ hb
  obtain ⟨hstep, hinterval⟩ := readSetGroup_bounds hb
  have done (muted : Bool) : movers g (mapGroup g (Position.complete muted) s.active) = 0 :=
    movers_eq_zero_iff.mpr fun i k hi => by
      rw [mapGroup_group] at hi
      rw [mapGroup_pos hi]
      exact Position.complete_still _ muted
  simp only [Taken.Leaves, State.rateGroup_eq rfl]
  have records : Follow s.groups s.active → Follow (s.groups.put g ((s.groups.row g).rated step interval)) s.active :=
    fun hf => hf.congr fun g' => by
      rw [muted_put]
      split
      · rename_i hg
        rw [hg]
        rfl
      · rfl
  obtain ⟨-, -, hmoving, hdown, hrun⟩ := h.1 g
  split
  · rename_i completes
    obtain ⟨h0, hm⟩ := completes
    refine ⟨fun g' => ?_, ?_⟩
    · rw [Table.row_put]
      split
      · rename_i hg
        rw [hg, done]
        refine ⟨hstep, hinterval, ?_, ?_, ?_⟩ <;> simp [Group.rated, h0, hm.ne']
      · rename_i hg
        rw [movers_congr (fun i => mapGroup_group ..) fun i hi => mapGroup_row_other (hi ▸ hg)]
        exact h.1 g'
    · refine Follow.mapGroup (groups := s.groups) h.2 (fun g' hg' => by rw [muted_put, if_neg hg']) fun p hp => ?_
      rw [muted_put, if_pos rfl]
      exact Position.complete_follows hp
  · rename_i stays
    refine ⟨fun g' => ?_, records h.2⟩
    rw [Table.row_put]
    split
    · rename_i hg
      rw [hg, ← hmoving]
      by_cases hm : (s.groups.row g).moving = 0
      · refine ⟨hstep, hinterval, ?_, ?_, ?_⟩ <;> simp [Group.rated, hm, hrun.mpr hm]
      · have h0 : interval ≠ 0 := fun h0 => stays ⟨h0, Nat.pos_of_ne_zero hm⟩
        refine ⟨hstep, hinterval, ?_, ?_, ?_⟩ <;> simp [Group.rated, hm, h0]
    · exact h.1 g'

end

end Sys2Proof.Machine
end

section
/-! Every operation of a step keeps the law of the group records and the positions (R62, R85 to R87, R93). -/

namespace Sys2Proof.Machine

/-! ## What of the groups and the Active Table a rule writes -/

/-- The group records and the Active Table (chapters 4 and 5). -/
def State.rampStore (s : State) : Table 3 Group × Table 6 Active := (s.groups, s.active)

section
variable (s : State)

/-! What the rules of the other requests write is not of the ramps. -/

@[simp] theorem State.rampStore_setTiming (v : Timing) : (s.setTiming v).rampStore = s.rampStore := rfl
@[simp] theorem State.rampStore_setNotices (v : NoticeSide) : (s.setNotices v).rampStore = s.rampStore := rfl
@[simp] theorem State.rampStore_setStaged (v : Table 6 Staged) : (s.setStaged v).rampStore = s.rampStore := rfl
@[simp] theorem State.rampStore_setCommit (v : Option Commit) : (s.setCommit v).rampStore = s.rampStore := rfl
@[simp] theorem State.rampStore_setMixer (v : Mixer) : (s.setMixer v).rampStore = s.rampStore := rfl
@[simp] theorem State.rampStore_setMemory (v : Memory) : (s.setMemory v).rampStore = s.rampStore := rfl
@[simp] theorem State.rampStore_setRegions (v : Table 3 (Option Region)) :
    (s.setRegions v).rampStore = s.rampStore := rfl
@[simp] theorem State.rampStore_setCapture (v : Capture) : (s.setCapture v).rampStore = s.rampStore := rfl
@[simp] theorem State.rampStore_setPlayers (v : Table 1 Player) : (s.setPlayers v).rampStore = s.rampStore := rfl
@[simp] theorem State.rampStore_setWatches (v : Table 4 Watch) : (s.setWatches v).rampStore = s.rampStore := rfl
@[simp] theorem State.rampStore_reply (tag : Tag) (st : Status) (body : List Payload) :
    (s.reply tag st body).rampStore = s.rampStore := rfl

/-- A stop of the capture leaves the ramps (R146). -/
@[simp] theorem State.rampStore_stopCapture (reason : EndReason) :
    (s.stopCapture reason).rampStore = s.rampStore := by
  obtain ⟨k, rs, n, e⟩ := s.stopCapture_frame reason
  rw [e]
  rfl
end

/-- A request's rule leaves the ramps, or is one of the four that move positions (R77, R88, R91, R177). -/
theorem Queued.take_rampStore (q : Queued) (s : State) :
    (q.take s).Leaves (fun t => t.rampStore = s.rampStore) ∨ q.take s = takeReset q.body s ∨
      q.take s = takeSetGain q.body s ∨ q.take s = takeSetGroup q.body s ∨ q.take s = takeGroupMute q.body s := by
  simp only [Queued.take]
  split
  case h_3 => simp only [true_or, or_true]
  case h_14 => simp only [true_or, or_true]
  case h_15 => simp only [true_or, or_true]
  case h_16 => simp only [or_true]
  case h_33 => exact .inl trivial
  all_goals refine .inl (checked_leaves fun x _ => ?_)
  case h_2 | h_18 => cases x <;> rfl
  case h_1 | h_4 | h_17 | h_23 | h_26 | h_29 | h_32 => rfl
  case h_28 =>
    simp only [State.endPlayer, State.returnRegion, Taken.Leaves]
    repeat' split
    all_goals simp [State.putPlayer, State.putRegion]
  case h_5 =>
    dsimp only
    repeat' split
    all_goals trivial
  all_goals repeat' split
  all_goals simp [Taken.Leaves, State.putStaged, State.putRegion, State.putPlayer, State.putWatch, State.endCommit]

/-! ## The law is kept -/

section
variable {s u : State}

/-- What leaves the ramps keeps the law. -/
theorem State.rampLaw_of_store (h : s.rampLaw) (e : u.rampStore = s.rampStore) : u.rampLaw :=
  State.rampLaw_congr (congrArg Prod.fst e) (congrArg Prod.snd e) h

/-- RESET ROUTING leaves the groups and the Active Table of reset (R99, R177). -/
theorem takeReset_rampLaw (body : List Payload) : (takeReset body s).Leaves State.rampLaw := by
  refine checked_leaves fun scope _ => ?_
  cases scope with
  | routing => exact State.rampLaw_reset rfl rfl
  | full => trivial

/-- A taking and its completion keep the law (R42 to R44). -/
theorem State.rampLaw_complete (q : Queued) (h : s.rampLaw) : (s.complete q.tag (q.outcome s)).rampLaw := by
  have left : (q.outcome s).Leaves State.rampLaw := by
    simp only [Queued.outcome]
    split
    · trivial
    obtain left | e | e | e | e := q.take_rampStore s
    · cases ht : q.take s with
      | refused | fenced => trivial
      | done t | deferred t =>
        rw [ht] at left
        exact State.rampLaw_of_store h left
    all_goals rw [e]
    · exact takeReset_rampLaw q.body
    · exact takeSetGain_rampLaw q.body h
    · exact takeSetGroup_rampLaw q.body h
    · exact takeGroupMute_rampLaw q.body h
  cases ho : q.outcome s <;> rw [ho] at left
  · exact h
  · exact left
  · exact left
  · exact h

/-- The Executor working off its queue keeps the law (R41). -/
theorem State.rampLaw_drain (n : Nat) (h : s.rampLaw) : (s.drain n).rampLaw := by
  refine State.drain_keeps (fun s q rest _ _ hs => ?_) n s h
  obtain ⟨m, f, e⟩ := s.postEnds_frame
  exact State.rampLaw_complete (s := s.postEnds.setCmdq rest) q (by rw [e]; exact hs)

/-- The outcome of the trailer checks keeps the law (R28, R47). -/
theorem State.rampLaw_settle (tag : Tag) (code : Code) (res : Bool) (body : List Payload) (verdict : Option Status)
    (h : s.rampLaw) : (s.settle tag code res body verdict).rampLaw := by
  simp only [State.settle]
  repeat' split
  · exact h
  · exact h
  · exact State.rampLaw_drain _ h

/-- The parser's word keeps the law (R22 to R28, R33). -/
theorem State.rampLaw_parserWord (w : LinkBits) (h : s.rampLaw) : (s.parserWord w).rampLaw := by
  obtain ⟨p, n, e⟩ | e | ⟨p, tag, code, res, body, v, e⟩ := s.parserWord_cases w <;> rw [e]
  · exact h
  · exact h
  · exact State.rampLaw_settle _ _ _ _ _ h

/-- The three effects keep the law: RESET FULL leaves the groups and the Active Table of reset (R17, R37, R179). -/
theorem State.rampLaw_takeEffect (h : s.rampLaw) : s.takeEffect.rampLaw := by
  simp only [State.takeEffect]
  repeat' split
  · simp only [State.moveLink, State.abandon_clear]
    exact h
  · simp only [State.changeFormat]
    split
    · exact h
    · rw [State.enterSearch_eq]
      exact h
  · rw [State.fullReset_eq]
    exact State.rampLaw_reset rfl rfl
  · exact h

/-- Every part of a timing event keeps the law. -/
theorem State.rampLaw_runPhase (s : State) (p : Phase) (h : s.rampLaw) : (s.runPhase p).rampLaw := by
  simp only [State.runPhase]
  split
  · exact h
  · rename_i c _
    cases p with
    | entryNotice | effectNotice => obtain ⟨n, e⟩ := s.postEntry_frame c.entry; simp only [e]; exact h
    | entryParser | effectParser => obtain ⟨p, n, e⟩ := s.parserEntry_frame c.entry; simp only [e]; exact h
    | group g => exact State.rampLaw_groupStep g h
    | commitTest => exact State.rampLaw_commitStep _ h
    | player n => obtain ⟨ps, rs, f, e⟩ := s.playerStep_frame n; simp only [e]; exact h
    | playerNotice n => obtain ⟨ns, f, e⟩ := s.postEnd_frame c n; simp only [e]; exact h
    | output => obtain ⟨m, p, f, e⟩ := s.beginOutput_frame; simp only [e]; exact h
    | mixer =>
      cases hd : s.timing.state.driving with
      | false => simpa [State.mix, hd] using h
      | true => obtain ⟨n, e⟩ := s.mix_frame c hd; simp only [e]; exact h
    | watch w => obtain ⟨ws, n, f, e⟩ := s.watchStep_frame c w; simp only [e]; exact h
    | capture => obtain ⟨m, k, rs, n, e⟩ := s.captureStep_frame c; simp only [e]; exact h
    | parser => exact State.rampLaw_parserWord _ h
    | effect => exact State.rampLaw_takeEffect h
    | drain => exact State.rampLaw_drain 1 h
    | word => obtain ⟨k, r, n, x, p, e⟩ := s.emitWord_frame; simp only [e]; exact h

end

/-- Every operation that a step is made of keeps the law. -/
theorem State.rampLaw_kept : Kept State.rampLaw where
  frame _ _ h := h
  phase := State.rampLaw_runPhase
  deliver _ _ _ h := State.rampLaw_settle _ _ _ _ _ h
  timing _ _ h := h
  release _ h := h
  restart s h := by rw [State.markRestart_eq]; exact h
  reset _ _ := State.rampLaw_reset rfl rfl
  pending _ _ h := h

/-- Settles O9: the group records and the Active Table agree after every operation, and so after every step. -/
theorem rampLawIsKept : Obligations.RampLawIsKept :=
  fun _ _ h hstep => State.rampLaw_kept.step h hstep

end Sys2Proof.Machine
end

section
/-! The posting of a notice (R52, R109). -/

namespace Sys2Proof.Machine

/-! ## What folds into a queued notice -/

/-- Of every kind but CLIP the posting's values become the notice's (R52). -/
theorem NoticeVal.fold_of_kind {old new : NoticeVal} (h : new.kind ≠ 8) : old.fold new = new := by
  simp only [NoticeVal.fold]
  split
  · exact absurd rfl h
  · rfl

section
variable {slots : List Slot} {overflow : Nat} {i : Slot}

/-- A slot that is listed changes nothing (R109). -/
theorem clipJoin_listed (h : i ∈ slots) : clipJoin slots overflow i = (slots, overflow) := if_pos h

/-- A new slot joins the end of a list with room (R109). -/
theorem clipJoin_joins (h : i ∉ slots) (hlen : slots.length < 32) :
    clipJoin slots overflow i = (slots ++ [i], overflow) := (if_neg h).trans (if_pos hlen)

/-- A new slot that finds the list full is counted (R109). -/
theorem clipJoin_overflows (h : i ∉ slots) (hlen : 32 ≤ slots.length) :
    clipJoin slots overflow i = (slots, min 127 (overflow + 1)) := (if_neg h).trans (if_neg (Nat.not_lt.mpr hlen))

/-- A CLIP posting for one slot folds as that slot joins the list (R109). -/
theorem NoticeVal.fold_clip {f g : FrameNo} {posted : Nat} {l : List Slot} {n : Nat}
    (h : clipJoin slots overflow i = (l, n)) :
    NoticeVal.fold (.clip f slots overflow) (.clip g [i] posted) = .clip g l n := by
  simp only [NoticeVal.fold, List.foldl_cons, List.foldl_nil, h]

end

/-! ## The four tests -/

section
variable {n : NoticeSide} {v : NoticeVal}

/-- A disabled kind is dropped (R52, R55). -/
theorem NoticeSide.post_disabled (h : n.mask.getLsbD (v.kind - 1) = false) : n.post v = n := if_pos h

variable (h : n.mask.getLsbD (v.kind - 1) = true)
include h

/-- A posting of a queued kind and subject is folded into that notice (R52). -/
theorem NoticeSide.post_folds (hq : ∃ q ∈ n.queue, q.val.sameKey v = true) :
    n.post v = { n with
      queue := n.queue.map fun q => if q.val.sameKey v then ⟨q.val.fold v, satInc q.count⟩ else q } :=
  (if_neg (by simp [h])).trans (if_pos (List.any_eq_true.mpr hq))

variable (hq : ∀ q ∈ n.queue, q.val.sameKey v = false)
include hq

/-- Any other posting joins the end while there is room (R52). -/
theorem NoticeSide.post_joins (hlen : n.queue.length < 16) : n.post v = { n with queue := n.queue ++ [⟨v, 1⟩] } :=
  (if_neg (by simp [h])).trans ((if_neg (by simpa using hq)).trans (if_pos hlen))

/-- It is counted lost where there is none (R52). -/
theorem NoticeSide.post_lost (hlen : 16 ≤ n.queue.length) : n.post v = { n with lost := satInc n.lost } :=
  (if_neg (by simp [h])).trans ((if_neg (by simpa using hq)).trans (if_neg (Nat.not_lt.mpr hlen)))

end

/-- Settles O29: counting, keys and folding, then the four tests in their order, then the CLIP list. -/
theorem postingMeetsFourTests : Obligations.PostingMeetsFourTests := by
  refine ⟨fun _ => satInc_toNat, fun _ _ => NoticeVal.sameKey_iff, fun _ _ => NoticeVal.fold_of_kind,
    fun n v => ⟨NoticeSide.post_disabled, fun h hq => ?_, NoticeSide.post_joins, NoticeSide.post_lost⟩,
    fun f g slots overflow posted i => ⟨fun h => NoticeVal.fold_clip (clipJoin_listed h),
      fun h hlen => NoticeVal.fold_clip (clipJoin_joins h hlen),
      fun h hlen => NoticeVal.fold_clip (clipJoin_overflows h hlen)⟩⟩
  rw [NoticeSide.post_folds h hq]
  refine ⟨List.length_map _, rfl, fun i q hi => ?_⟩
  rw [List.getElem?_map, hi]
  rfl

end Sys2Proof.Machine
end

section
/-! The pending commit at a declared frame: what its application makes of a position, and how it waits or times out (R69 to
R75). -/

namespace Sys2Proof.Machine

/-! ## What an application makes of a position -/

/-- A dirty entry's positions, each compared with the staged record at its place (R71, R72). -/
theorem Staged.apply_row {groups : Table 3 Group} {e : Staged} {a : Active} (h : e.dirty = true) (k : BitVec 2) :
    (e.apply groups a).pos.row k =
      (a.pos.row k).adopt (groups.row e.group).muted ((groups.row e.group).interval == 0) e.list[k.toNat]? := by
  simp only [Staged.apply, if_pos h, Table.row_tab]
  rfl

/-- In a group with a nonzero interval a contributor that follows is STEADY or RAMPING (R62). -/
theorem follow_ramps (muted : Bool) (c : Contrib) (cur : Gain) : follow muted false c cur =
    if cur = (if muted then 0 else c.target) then .steady c cur else .ramping c cur := rfl

/-- In a jump group a commit leaves nothing where the list names nothing (R72). -/
theorem Position.adopt_jump_none (muted : Bool) (old : Position) : old.adopt muted true none = .empty := by
  cases old <;> rfl

/-- In a jump group a commit leaves the contributor that the list names at its effective target (R72). -/
theorem Position.adopt_jump_some (muted : Bool) (old : Position) (q : Contrib) :
    old.adopt muted true (some q) = .steady q (effective muted q) := by
  have matched : ∀ (same : Bool) c cur,
      (if same then follow muted true q cur else .draining c cur (some q)).complete muted =
        .steady q (effective muted q) := by
    intro same c cur
    cases same
    · exact follow_jump muted q 0
    · simp only [if_true, follow_jump, Position.complete]
  cases old with
  | empty => simp only [Position.adopt, Position.compare, follow_jump, if_true, Position.complete]
  | steady c cur | ramping c cur | draining c cur => exact matched _ c cur

/-- Settles O32: the positions of a dirty entry, the comparison, and what a jump group makes of it. -/
theorem commitComparesPositions : Obligations.CommitComparesPositions := by
  refine ⟨fun groups e a k h => Staged.apply_row h k, ?_⟩
  intro muted c p cur pend rec settles matching
  refine ⟨rfl, follow_ramps muted p 0, fun old hold => ?_, fun old => old.adopt_still muted rec,
    Position.adopt_jump_none muted, ?_⟩
  · have matched (hm : matching = true) : (if p.same c then follow muted false p cur else
        Position.draining c cur (some p)) = settles p cur := (if_pos hm).trans (follow_ramps muted p cur)
    have unmatched (hm : matching = false) : (if p.same c then follow muted false p cur else
        Position.draining c cur (some p)) = .draining c cur (some p) := if_neg (Bool.eq_false_iff.mp hm)
    simp only [List.mem_cons, List.not_mem_nil, or_false] at hold
    obtain rfl | rfl | rfl := hold
    all_goals exact ⟨matched, unmatched, rfl⟩
  · rintro old q rfl
    exact ⟨_, Position.adopt_jump_some muted old q, rfl⟩

/-! ## A commit that waits or times out -/

/-- Some position of the Active Table moves (R70). -/
theorem anyMover_iff {t : Table 6 Active} :
    anyMover t = true ↔ ∃ (i : Slot) (k : BitVec 2), ((t.row i).pos.row k).moving = true := by
  simp [anyMover, Table.toList_eq]

/-- A RAMPS_IDLE commit whose elapsed count has reached its limit (R73). -/
theorem Commit.timedOut_tick {k : Commit} :
    k.tick.timedOut = true ↔ k.gate = .rampsIdle ∧ k.limit.toNat ≤ (satInc k.elapsed).toNat :=
  (Bool.and_eq_true_iff).trans (and_congr beq_iff_eq decide_eq_true_iff)

/-- The body of a COMMIT reply without an application (R73, R75, R185). -/
theorem commitBody_none (frame : FrameNo) (elapsed : BitVec 16) : commitBody 0 frame elapsed =
    [0, frame.extractLsb' 0 24, 0#16 ++ frame.extractLsb' 24 8, 0#8 ++ elapsed] := rfl

section
variable {s : State} {k : Commit} {arrival : Bool} (hk : s.commit = some k)
  (hgate : ¬ (arrival && k.gateMet s.active) = true)
include hk hgate

/-- Where the gate is not met a commit short of its limit waits (R70, R73). -/
theorem State.commitStep_waits (h : ¬ k.tick.timedOut = true) :
    s.commitStep arrival = s.setCommit (some { k with elapsed := satInc k.elapsed }) := by
  simp only [State.commitStep, hk, if_neg hgate, if_neg h]
  rfl

/-- Where the gate is not met a commit at its limit ends (R73). -/
theorem State.commitStep_ends (h : k.tick.timedOut = true) : s.commitStep arrival =
    (s.setCommit none).reply k.tag .rampTimeout [0, s.now.extractLsb' 0 24, 0#16 ++ s.now.extractLsb' 24 8,
      0#8 ++ satInc k.elapsed] := by
  simp only [State.commitStep, hk, if_neg hgate, if_pos h]
  rfl

end

/-- Settles O34: the gate is not met, so the elapsed count rises, to the limit or short of it. -/
theorem commitWaitsOrTimesOut : Obligations.CommitWaitsOrTimesOut := by
  intro s c k hk hwait late
  have gate : ¬ ((c.kind == .arrival) && k.gateMet s.active) = true := by
    obtain he | ⟨hg, moves⟩ := hwait
    · simp [he]
    · simp [Commit.gateMet, hg, anyMover_iff.mpr moves]
  refine ⟨fun h => State.commitStep_waits hk gate fun ht => h (Commit.timedOut_tick.mp ht), fun h hat => ?_⟩
  have ended := Commit.timedOut_tick.mpr h
  obtain ⟨hs, hp, hq⟩ := hat
  have due : timeoutDue s c = true := by
    simp only [timeoutDue, hk, Option.any_some, ended, Bool.and_true, Bool.not_eq_true']
    exact Bool.eq_false_iff.mpr gate
  have run : (s.took c .commitTest).runPhase .commitTest = (s.took c .commitTest).commitStep (c.kind == .arrival) := rfl
  have taken := State.takeDue_of_ready hs hp hq due
  rw [← State.took, run, State.commitStep_ends (s := s.took c .commitTest) hk gate ended] at taken
  exact congrArg Host.Outcome.next taken

end Sys2Proof.Machine
end

section
/-! COMMIT_APPLY and SET GAIN (R71, R74, R77, R86, R87, R96, R101). -/

namespace Sys2Proof.Machine

/-! ## The application of a commit -/

/-- The active entries once the dirty staged ones have been applied to them (R71, R72). -/
def State.entriesApplied (s : State) : Table 6 Active :=
  Table.tab fun i => (s.staged.row i).apply s.groups (s.active.row i)

/-- The staged entries with every dirty mark cleared (R71). -/
def State.entriesClean (s : State) : Table 6 Staged := Table.tab fun i => { s.staged.row i with dirty := false }

/-- Each active entry once its staged one has been applied to it. -/
theorem State.entriesApplied_row (s : State) (i : Slot) :
    s.entriesApplied.row i = (s.staged.row i).apply s.groups (s.active.row i) := Table.row_tab _ i

/-- Each staged entry once its dirty mark has been cleared. -/
theorem State.entriesClean_row (s : State) (i : Slot) :
    s.entriesClean.row i = { s.staged.row i with dirty := false } := Table.row_tab _ i

/-- An entry that is not dirty leaves its active entry (R71). -/
theorem Staged.apply_clean {groups : Table 3 Group} {e : Staged} {a : Active} (h : e.dirty = false) :
    e.apply groups a = a := if_neg (Bool.eq_false_iff.mp h)

/-- A dirty entry brings its drive, hold policy and group (R71). -/
theorem Staged.apply_dirty {groups : Table 3 Group} {e : Staged} {a : Active} (h : e.dirty = true) :
    (e.apply groups a).drive = e.drive ∧ (e.apply groups a).hold = e.hold ∧ (e.apply groups a).group = e.group := by
  simp only [Staged.apply, if_pos h, and_self]

/-- Bringing the counts up to date in a state that differs from the one the event found in its Active Table: what it
writes, and how the counts follow (R86, R87, R96). -/
theorem State.syncGroups_counts {s u : State} (hg : u.groups = s.groups) (hn : u.notices = s.notices)
    (ht : u.now = s.now) (hf : u.frame = s.frame) : ∃ gs n, u.syncGroups s.active = { u with
      groups := gs, notices := n, frame := s.frame.map fun c => c.lessRisen s.groups u.active } ∧
    s.countsFollow (u.syncGroups s.active) s.groups := by
  have counts := State.countsFollow_syncGroups hn ht
  have parts := u.syncGroups_parts s.active
  obtain ⟨gs, n, f, e⟩ := u.syncGroups_frame s.active
  rw [hg] at counts
  rw [hg, hf] at parts
  rw [e] at counts parts ⊢
  obtain rfl : f = _ := parts
  exact ⟨gs, n, rfl, counts⟩

/-- The application of a commit: both tables, the record, the counts that follow, the steps of the groups whose counts
rise, the reply (R71, R86, R87). -/
theorem State.applyCommit_counts (s : State) (k : Commit) : ∃ gs n, s.applyCommit k = { s with
      active := s.entriesApplied, staged := s.entriesClean, commit := none, groups := gs, notices := n
      frame := s.frame.map fun c => c.lessRisen s.groups s.entriesApplied
      replies := s.replies.makeReady k.tag .done
        (commitBody (s.staged.toList.countP (·.dirty)) s.now k.elapsed) } ∧
    s.countsFollow (s.applyCommit k) s.groups := by
  have applied : s.applyCommit k = ((((s.setActive s.entriesApplied).setStaged s.entriesClean).setCommit
      none).syncGroups s.active).reply k.tag .done (commitBody (s.staged.toList.countP (·.dirty)) s.now k.elapsed) := rfl
  rw [applied]
  generalize s.entriesApplied = a
  generalize s.entriesClean = st
  generalize commitBody _ _ _ = body
  obtain ⟨gs, n, e, counts⟩ := State.syncGroups_counts (s := s) (u := ((s.setActive a).setStaged st).setCommit none)
    rfl rfl rfl rfl
  rw [e] at counts ⊢
  exact ⟨gs, n, rfl, counts⟩

/-- COMMIT_APPLY at its part of an arrival whose test meets the gate (R70, R71). -/
theorem exec_commitApply {s : State} {c : FrameCtx} {k : Commit} (hat : s.atPhase c .commitTest)
    (hk : s.commit = some k) (hc : c.kind = .arrival) (hgate : k.gateMet s.active = true) :
    exec .commitApply s = .next ((s.took c .commitTest).applyCommit k).closeEvent := by
  obtain ⟨hs, hp, hq⟩ := hat
  have due : applyDue s c = true := by simp [applyDue, hc, hk, hgate]
  have run : (s.took c .commitTest).runPhase .commitTest = (s.took c .commitTest).applyCommit k := by
    have met : (c.kind == .arrival && k.gateMet (s.took c .commitTest).active) = true := by
      rw [hc]
      exact hgate
    have pending : (s.took c .commitTest).commit = some k := hk
    show (s.took c .commitTest).commitStep (c.kind == .arrival) = _
    simp only [State.commitStep, pending, if_pos met]
  have taken := State.takeDue_of_ready hs hp hq due
  rw [← State.took, run] at taken
  exact congrArg Host.Outcome.next taken

/-- Settles O33: the gate is met, and the state after the application is read field by field. -/
theorem commitApplyCompletes : Obligations.CommitApplyCompletes := by
  intro s c k hat hk hc hgate
  have met : k.gateMet s.active = true := by
    simp only [Commit.gateMet]
    split
    · rfl
    · rename_i ramps
      have still := hgate.resolve_left (by simp [ramps])
      simp [Bool.eq_false_iff, anyMover_iff, still]
  refine ⟨_, exec_commitApply hat hk hc met, ?_⟩
  obtain ⟨gs, n, e, follow⟩ := (s.took c .commitTest).applyCommit_counts k
  rw [e] at follow ⊢
  rw [State.closeEvent_eq rfl]
  refine ⟨rfl, fun i hi => ?_, fun i hi => ?_, s.entriesClean_row, follow, rfl, rfl, rfl⟩
  · obtain ⟨drive, hold, group⟩ := Staged.apply_dirty (groups := s.groups) (a := s.active.row i) hi
    have entry : s.entriesApplied.row i = _ := s.entriesApplied_row i
    rw [← entry] at drive hold group
    exact ⟨drive, hold, group, fun n => (congrArg (·.pos.row n) entry).trans (Staged.apply_row hi n)⟩
  · exact (s.entriesApplied_row i).trans (Staged.apply_clean hi)

end Sys2Proof.Machine
end

section
/-! SET GAIN, taken at once (R77, R86, R87, R96, R101). -/

namespace Sys2Proof.Machine

/-! ## What SET GAIN makes of a position -/

/-- A contributor with a new target is STEADY there, or ramps to it where its group has an interval (R62, R77). -/
theorem follow_target {muted : Bool} {interval : Nat} {c : Contrib} {cur goal : Gain}
    (hgoal : (if muted then 0 else c.target) = goal) :
    (cur = goal → follow muted (interval == 0) c cur = .steady c cur) ∧
    (cur ≠ goal → interval = 0 → follow muted (interval == 0) c cur = .steady c goal) ∧
    (cur ≠ goal → interval ≠ 0 → follow muted (interval == 0) c cur = .ramping c cur) := by
  have goal_eq : effective muted c = goal := hgoal
  simp only [follow, goal_eq]
  exact ⟨fun h => if_pos h, fun h h0 => (if_neg h).trans (if_pos (beq_iff_eq.mpr h0)),
    fun h h0 => (if_neg h).trans (if_neg fun e => h0 (beq_iff_eq.mp e))⟩

/-! ## The state after SET GAIN -/

/-- A record whose count does not change is left as it is (R86). -/
theorem Group.counted_self (r : Group) : r.counted r.moving = r := by
  cases r
  simp only [Group.counted, Group.mk.injEq, true_and, and_true]
  repeat' split
  all_goals simp_all

/-- Where no group's count changes, no record changes and nothing is posted (R86, R96). -/
theorem State.syncGroups_same {s : State} (old : Table 6 Active)
    (h : ∀ g : GroupNo, (s.groups.row g).moving = movers g s.active) :
    (s.syncGroups old).groups = s.groups ∧ (s.syncGroups old).notices = s.notices := by
  refine ⟨Table.ext fun g => ?_, ?_⟩
  · rw [State.syncGroups_row, ← h, Group.counted_self]
  · rw [State.syncGroups_notices]
    refine NoticeSide.postSettled_none _ _ _ fun g settles => ?_
    obtain ⟨moved, still, -⟩ := settles
    exact moved ((h g).trans still)

section
variable {s : State} {tag : Tag} {body : List Payload} {slot : Slot} {k : BitVec 2} {code : Gain}
  (h : s.takesAtOnce tag) (hb : readSetGain body = some (slot, k, code))
include h hb

/-- SET GAIN on a position that takes no target (R77). -/
theorem exec_setGain_refused (hp : ((s.active.row slot).pos.row k).setGain
    (s.groups.row (s.active.row slot).group).muted (s.groups.row (s.active.row slot).group).jump code = none) :
    exec (.setGain ⟨tag, false, body⟩) s = .next (s.answered tag .positionEmpty []) := by
  have rule : takeSetGain body (s.reserved tag 14) = .refused .positionEmpty := by
    rw [takeSetGain, checked_some hb]
    simp only [State.reserved, State.setReplies_active, State.setReplies_groups, hp]
  exact congrArg Host.Outcome.next (State.deliver_refused h (by decide) rule)

/-- SET GAIN on a position that takes the target: the Active Table with that position, and the counts that follow (R77,
R86). -/
theorem exec_setGain {p : Position} {a : Table 6 Active} (hp : ((s.active.row slot).pos.row k).setGain
      (s.groups.row (s.active.row slot).group).muted (s.groups.row (s.active.row slot).group).jump code = some p)
    (ha : s.active.put slot { s.active.row slot with pos := (s.active.row slot).pos.put k p } = a) :
    exec (.setGain ⟨tag, false, body⟩) s =
      .next (((s.setActive a).syncGroups s.active).answered tag .done p.pair) := by
  have reserves : ((s.reserved tag 14).setActive a).syncGroups s.active =
      ((s.setActive a).syncGroups s.active).reserved tag 14 := by
    rw [State.reserved, State.reserved, State.syncGroups_replies]
    exact State.syncGroups_setReplies (s.setActive a) _ _
  have rule : takeSetGain body (s.reserved tag 14) =
      .done (((s.setActive a).syncGroups s.active).reserved tag 14) p.pair := by
    rw [takeSetGain, checked_some hb, ← reserves, ← ha]
    simp only [State.reserved, State.setReplies_active, State.setReplies_groups, hp]
    rfl
  exact congrArg Host.Outcome.next (State.deliver_done h (by decide) rule (State.syncGroups_replies ..))

end

/-- Settles O55: what becomes of the position, and the state after it read field by field. -/
theorem setGainActsOnOnePosition : Obligations.SetGainActsOnOnePosition := by
  rintro s ⟨tag, res, body⟩ slot k code (rfl : res = false) htake hb e g goal put becomes
  have taken : ∀ p, (e.pos.row k).setGain g.muted (g.interval == 0) code = some p → becomes p := by
    intro p hp
    obtain ⟨a, ha⟩ : ∃ a, put p = a := ⟨_, rfl⟩
    refine ⟨_, exec_setGain htake hb hp ha, ?_⟩
    obtain ⟨gs, n, he, counts⟩ := State.syncGroups_counts (s := s) (u := s.setActive a) rfl rfl rfl rfl
    have same := State.syncGroups_same (s := s.setActive a) s.active
    rw [he] at counts same ⊢
    rw [ha]
    exact ⟨rfl, rfl, counts, rfl, same, rfl⟩
  refine ⟨fun c cur hpos => ?_, fun c cur p hpos => taken _ (by rw [hpos]; rfl), fun hpos => ?_⟩
  · have follows : (e.pos.row k).setGain g.muted (g.interval == 0) code =
        some (follow g.muted (g.interval == 0) { c with target := code } cur) := by
      obtain hpos | hpos := hpos <;> rw [hpos] <;> rfl
    obtain ⟨arrived, jumps, ramps⟩ := follow_target (interval := g.interval) (c := { c with target := code })
      (cur := cur) (goal := goal) rfl
    exact ⟨fun hc => taken _ (follows.trans (congrArg some (arrived hc))),
      fun hc h0 => taken _ (follows.trans (congrArg some (jumps hc h0))),
      fun hc h0 => taken _ (follows.trans (congrArg some (ramps hc h0)))⟩
  · refine exec_setGain_refused htake hb ?_
    obtain hpos | ⟨c, cur, hpos⟩ := hpos
    all_goals exact congrArg (fun p : Position => p.setGain g.muted g.jump code) hpos

end Sys2Proof.Machine
end

section
/-! RESET ROUTING, the staging requests, COMMIT and CANCEL COMMIT, taken at once (R60, R65 to R67, R69, R75, R80, R99, R117,
R177). -/

namespace Sys2Proof.Machine

/-! ## RESET ROUTING -/

/-- The tag of a request that is taken at once is not live (R38). -/
theorem State.takesAtOnce.fresh {s : State} {tag : Tag} (h : s.takesAtOnce tag) : s.replies.live tag = false := by
  obtain ⟨⟨-, notLive, -⟩, -⟩ := h
  exact notLive

/-- What the reset of the routing makes of a state: the reset values of the tables, the groups and the mixer, with the result
in flight kept (R99, R117, R177). -/
theorem State.clearRouting_eq (u : State) : ∃ (st : Table 6 Staged) (ac : Table 6 Active) (gr : Table 3 Group) (mx : Mixer),
    u.clearRoutes.clearMixer = { u with staged := st, active := ac, groups := gr, mixer := mx } ∧
    (∀ i : Slot, st.row i = ⟨.released, .live, 0, [], false⟩ ∧ (ac.row i).drive = .released ∧
      (ac.row i).hold = .live ∧ (ac.row i).group = 0 ∧ (∀ k : BitVec 2, (ac.row i).pos.row k = .empty) ∧
      mx.clips.row i = 0 ∧ mx.lastEmitted.row i = 0) ∧
    (∀ g : GroupNo, gr.row g = ⟨2, 1, false, 0, 0⟩) ∧ mx.flight = u.mixer.flight := by
  refine ⟨Table.tab fun _ => Staged.reset, Table.tab fun _ => Active.reset, Table.tab fun _ => Group.reset,
    { Mixer.reset with flight := u.mixer.flight }, ?_, fun i => ?_, fun g => ?_, rfl⟩
  · simp only [State.clearRoutes, State.clearMixer, State.setStaged, State.setActive, State.setGroups, State.setMixer]
  · simp [Staged.reset, Active.reset, Mixer.reset]
  · simp [Group.reset]

/-- What RESET with the scope ROUTING makes of the state and of its reply (R177, R185). -/
theorem take_resetRouting (tag : Tag) (s : State) : Queued.take ⟨tag, 3, false, [1]⟩ s =
    .done s.resetRouting (resetWords 1 s.commit) := rfl

section
variable {s : State} {tag : Tag} (h : s.takesAtOnce tag)
include h

/-- RESET ROUTING as its rule has it (R177). -/
theorem exec_resetRouting : exec (.resetRouting tag false) s =
    .next ((s.reserved tag 3).resetRouting.reply tag .done (resetWords 1 s.commit)) := by
  have delivered := State.deliver_take (code := 3) (body := [1]) h (by decide)
  rw [take_resetRouting] at delivered
  exact congrArg Host.Outcome.next delivered

end

/-- Settles O52: with no commit pending and with one, the state read field by field. -/
theorem resetRoutingClearsTheRouting : Obligations.ResetRoutingClearsTheRouting := by
  intro s tag h _
  have fresh := h.fresh
  rw [exec_resetRouting h]
  cases hc : s.commit with
  | none =>
    have pending : (s.reserved tag 3).commit = none := hc
    obtain ⟨st, ac, gr, mx, cleared, entries, groups, flight⟩ := (s.reserved tag 3).clearRouting_eq
    simp only [State.resetRouting, pending, cleared]
    exact ⟨_, rfl, rfl, entries, groups, flight, rfl, fun _ => ReplyQueue.makeReady_reserve .done _ fresh,
      fun _ hk => nomatch hk⟩
  | some c =>
    have pending : (s.reserved tag 3).commit = some c := hc
    obtain ⟨st, ac, gr, mx, cleared, entries, groups, flight⟩ :=
      ((s.reserved tag 3).endCommit c .commitCancelled).clearRouting_eq
    simp only [State.resetRouting, pending, cleared]
    refine ⟨_, rfl, rfl, entries, groups, flight, rfl, ?_, ?_⟩
    · rintro ⟨⟩
    · rintro _ ⟨⟩
      exact List.append_assoc ..

/-! ## Staging -/

/-- No list names the same source twice (R59). -/
theorem distinctSources_iff {l : List Contrib} : distinctSources l = true ↔ (l.map (·.source)).Nodup := by
  induction l with
  | nil => simp [distinctSources]
  | cons c l ih =>
    simp only [distinctSources, Bool.and_eq_true, ih, List.map_cons, List.nodup_cons]
    simp

section
variable {s : State} {tag : Tag} {body : List Payload} (h : s.takesAtOnce tag)
include h

section
variable {f : StageRouteFields} (hb : readStageRoute body = some f)
include hb

/-- STAGE ROUTE whose list names a source twice (R59, R65). -/
theorem exec_stageRoute_repeats (hd : ¬ distinctSources f.list = true) :
    exec (.stageRoute ⟨tag, false, body⟩) s = .next (s.answered tag .badField []) :=
  congrArg Host.Outcome.next (State.deliver_refused h (by decide)
    ((checked_some hb).trans (if_pos (by simpa using hd))))

variable (hd : distinctSources f.list = true)
include hd

/-- STAGE ROUTE while a commit is pending (R60, R65). -/
theorem exec_stageRoute_locked (hc : s.commit.isSome = true) :
    exec (.stageRoute ⟨tag, false, body⟩) s = .next (s.answered tag .stageLocked []) :=
  congrArg Host.Outcome.next (State.deliver_refused h (by decide)
    ((checked_some hb).trans ((if_neg (by simpa using hd)).trans (if_pos hc))))

variable (hc : ¬ s.commit.isSome = true)
include hc

/-- STAGE ROUTE that names the management inbound slot (R64, R65). -/
theorem exec_stageRoute_inbound (hi : (f.list.any fun c => c.source == s.link.inb.setWidth 7) = true) :
    exec (.stageRoute ⟨tag, false, body⟩) s = .next (s.answered tag .slotReserved []) :=
  congrArg Host.Outcome.next (State.deliver_refused h (by decide)
    ((checked_some hb).trans ((if_neg (by simpa using hd)).trans ((if_neg hc).trans (if_pos hi)))))

variable (hi : ¬ (f.list.any fun c => c.source == s.link.inb.setWidth 7) = true)
include hi

/-- STAGE ROUTE that drives the management outbound slot (R64, R65). -/
theorem exec_stageRoute_outbound (ho : (f.slot == s.link.outb && f.drive == .driven) = true) :
    exec (.stageRoute ⟨tag, false, body⟩) s = .next (s.answered tag .slotReserved []) :=
  congrArg Host.Outcome.next (State.deliver_refused h (by decide)
    ((checked_some hb).trans ((if_neg (by simpa using hd)).trans ((if_neg hc).trans ((if_neg hi).trans (if_pos ho))))))

/-- STAGE ROUTE that passes its checks replaces the staged entry (R65). -/
theorem exec_stageRoute_done (ho : ¬ (f.slot == s.link.outb && f.drive == .driven) = true) :
    exec (.stageRoute ⟨tag, false, body⟩) s =
      .next ((s.setStaged (s.staged.put f.slot ⟨f.drive, f.hold, f.group, f.list, true⟩)).answered tag .done
        [f.slot ++ 0#18]) :=
  congrArg Host.Outcome.next (State.deliver_done
    (u := s.setStaged (s.staged.put f.slot ⟨f.drive, f.hold, f.group, f.list, true⟩)) h (by decide)
    ((checked_some hb).trans
      ((if_neg (by simpa using hd)).trans ((if_neg hc).trans ((if_neg hi).trans (if_neg ho))))) rfl)

end

/-- STAGE CLEAR while a commit is pending (R60, R66). -/
theorem exec_stageClear_locked {target : Option Slot} (hb : readStageClear body = some target) (hc : s.commit.isSome = true) :
    exec (.stageClear ⟨tag, false, body⟩) s = .next (s.answered tag .stageLocked []) :=
  congrArg Host.Outcome.next (State.deliver_refused h (by decide) ((checked_some hb).trans (if_pos hc)))

/-- STAGE CLEAR of one slot (R66). -/
theorem exec_stageClear_slot {slot : Slot} (hb : readStageClear body = some (some slot)) (hc : ¬ s.commit.isSome = true) :
    exec (.stageClear ⟨tag, false, body⟩) s =
      .next ((s.setStaged (s.staged.put slot ⟨.released, .live, 0, [], true⟩)).answered tag .done [1]) :=
  congrArg Host.Outcome.next (State.deliver_done
    (u := s.setStaged (s.staged.put slot ⟨.released, .live, 0, [], true⟩)) h (by decide)
    ((checked_some hb).trans (if_neg hc)) rfl)

/-- STAGE CLEAR of all slots (R66). -/
theorem exec_stageClear_all (hb : readStageClear body = some none) (hc : ¬ s.commit.isSome = true) :
    exec (.stageClear ⟨tag, false, body⟩) s =
      .next ((s.setStaged (Table.tab fun _ => ⟨.released, .live, 0, [], true⟩)).answered tag .done [64]) :=
  congrArg Host.Outcome.next (State.deliver_done
    (u := s.setStaged (Table.tab fun _ => ⟨.released, .live, 0, [], true⟩)) h (by decide)
    ((checked_some hb).trans (if_neg hc)) rfl)

end

section
variable {s : State} {tag : Tag} (h : s.takesAtOnce tag)
include h

/-- STAGE FROM ACTIVE while a commit is pending (R60, R67). -/
theorem exec_stageFromActive_locked (hc : s.commit.isSome = true) :
    exec (.stageFromActive ⟨tag, false, []⟩) s = .next (s.answered tag .stageLocked []) :=
  congrArg Host.Outcome.next (State.deliver_refused h (by decide) (if_pos hc))

/-- STAGE FROM ACTIVE stages the configured view (R67). -/
theorem exec_stageFromActive_done (hc : ¬ s.commit.isSome = true) :
    exec (.stageFromActive ⟨tag, false, []⟩) s =
      .next ((s.setStaged (Table.tab fun i => (s.active.row i).configured)).answered tag .done []) := by
  have rule : Queued.take ⟨tag, 10, false, []⟩ (s.reserved tag 10) = .done
      ((s.reserved tag 10).setStaged (Table.tab fun i => ((s.reserved tag 10).active.row i).configured)) [] := if_neg hc
  have active : (s.reserved tag 10).active = s.active := rfl
  rw [active] at rule
  generalize (Table.tab fun i => (s.active.row i).configured) = configured at rule ⊢
  exact congrArg Host.Outcome.next (State.deliver_done (u := s.setStaged configured) h (by decide) rule rfl)

end

/-- The positions of an entry in order (R62). -/
theorem positions_toList (p : Table 2 Position) : p.toList = [p.row 0, p.row 1, p.row 2, p.row 3] := by
  rw [Table.toList_eq]
  rfl

/-- What R64 asks of a staged entry, as the two checks of STAGE ROUTE test it (R65). -/
theorem stageRoute_allowed_iff {s : State} {f : StageRouteFields} :
    ((∀ c ∈ f.list, c.source ≠ s.link.inb.setWidth 7) ∧ (f.slot = s.link.outb → f.drive = .released)) ↔
      ¬ (f.list.any fun c => c.source == s.link.inb.setWidth 7) = true ∧
      ¬ (f.slot == s.link.outb && f.drive == .driven) = true := by
  have driven : f.drive = .released ↔ ¬ f.drive = .driven := by cases f.drive <;> decide
  simp [driven]

/-- Settles O53: each staging request, its checks in order. -/
theorem stagingRequests : Obligations.StagingRequests := by
  rintro s ⟨tag, res, body⟩ (rfl : res = false) h
  have unlocked (hc : s.commit = none) : ¬ s.commit.isSome = true := by simp [hc]
  refine ⟨fun f hb => ?_, fun slot hb hc => exec_stageClear_slot h hb (unlocked hc),
    fun hb hc => ⟨_, exec_stageClear_all h hb (unlocked hc), fun i => Table.row_tab _ i⟩, ?_, fun hc =>
    ⟨fun x hb => exec_stageClear_locked h hb hc, ?_⟩⟩
  · intro distinct allowed
    have hd : distinct ↔ distinctSources f.list = true := distinctSources_iff.symm
    have ha : allowed ↔ _ := stageRoute_allowed_iff
    refine ⟨fun hn => exec_stageRoute_repeats h hb (mt hd.mpr hn),
      fun hp hc => exec_stageRoute_locked h hb (hd.mp hp) hc, fun hp hc hna => ?_, fun hp hc hall =>
      exec_stageRoute_done h hb (hd.mp hp) (unlocked hc) (ha.mp hall).1 (ha.mp hall).2⟩
    by_cases hi : (f.list.any fun c => c.source == s.link.inb.setWidth 7) = true
    · exact exec_stageRoute_inbound h hb (hd.mp hp) (unlocked hc) hi
    · have ho : (f.slot == s.link.outb && f.drive == .driven) = true :=
        Classical.byContradiction fun ho => hna (ha.mpr ⟨hi, ho⟩)
      exact exec_stageRoute_outbound h hb (hd.mp hp) (unlocked hc) hi ho
  · rintro (rfl : body = []) hc
    refine ⟨_, exec_stageFromActive_done h (unlocked hc), fun i => ?_⟩
    rw [Table.row_tab]
    refine ⟨rfl, rfl, rfl, rfl, ?_⟩
    rw [Active.configured, positions_toList]
    refine List.filterMap_congr fun p _ => ?_
    cases p <;> rfl
  · rintro (rfl : body = [])
    exact exec_stageFromActive_locked h hc

/-! ## COMMIT and CANCEL COMMIT -/

section
variable {r : ReplyQueue} {tag owner : Tag} (st : Status) (reply : List Payload) (ht : owner ≠ tag)
include ht

/-- A place reserved last stays last while another tag's reply becomes READY (R46, R47). -/
theorem ReplyQueue.makeReady_reserve_other (code : Code) :
    ({ r with reserved := r.reserved ++ [⟨tag, code⟩] } : ReplyQueue).makeReady owner st reply =
      { r.makeReady owner st reply with reserved := (r.makeReady owner st reply).reserved ++ [⟨tag, code⟩] } := by
  have other : [(⟨tag, code⟩ : Reserved)].eraseP (fun p => p.tag == owner) = [⟨tag, code⟩] :=
    List.eraseP_of_forall_not (by simpa using ht.symm)
  simp only [ReplyQueue.makeReady, ReplyQueue.mk.injEq, and_true, List.eraseP_append, other]
  split
  · rfl
  · rename_i none
    rw [List.eraseP_of_forall_not fun b hb ho => none (List.any_eq_true.mpr ⟨b, hb, ho⟩)]

/-- A tag that is not live stays so while another tag's reply becomes READY (R38, R47). -/
theorem ReplyQueue.live_makeReady_other (h : r.live tag = false) : (r.makeReady owner st reply).live tag = false := by
  simp only [ReplyQueue.live, ReplyQueue.makeReady, Bool.or_eq_false_iff, List.any_eq_false] at h ⊢
  obtain ⟨reserved, ready⟩ := h
  refine ⟨fun p hp => reserved p (List.mem_of_mem_eraseP hp), fun p hp => ?_⟩
  obtain hp | hp := List.mem_append.mp hp
  · exact ready p hp
  · simp [List.mem_singleton.mp hp, ht]

end

section
variable {s : State} {tag : Tag} (h : s.takesAtOnce tag)
include h

section
variable {body : List Payload} {gate : Gate} {limit : BitVec 16} (hb : readCommit body = some (gate, limit))
include hb

/-- COMMIT makes the pending record and waits with its place RESERVED (R43, R69). -/
theorem exec_commit_deferred (hc : ¬ s.commit.isSome = true) : exec (.commit ⟨tag, false, body⟩) s =
    .next ((s.reserved tag 12).setCommit (some ⟨tag, gate, limit, 0⟩)) := by
  have rule : Queued.take ⟨tag, 12, false, body⟩ (s.reserved tag 12) =
      .deferred ((s.reserved tag 12).setCommit (some ⟨tag, gate, limit, 0⟩)) := (checked_some hb).trans (if_neg hc)
  have delivered := State.deliver_take (code := 12) (body := body) h (by decide)
  rw [rule] at delivered
  exact congrArg Host.Outcome.next delivered

/-- COMMIT while one is pending (R69). -/
theorem exec_commit_pending (hc : s.commit.isSome = true) :
    exec (.commit ⟨tag, false, body⟩) s = .next (s.answered tag .commitPending []) :=
  congrArg Host.Outcome.next (State.deliver_refused h (by decide) ((checked_some hb).trans (if_pos hc)))

end

/-- CANCEL COMMIT with none pending (R75). -/
theorem exec_cancelCommit_none (hc : s.commit = none) :
    exec (.cancelCommit ⟨tag, false, []⟩) s = .next (s.answered tag .noCommit []) := by
  have rule : Queued.take ⟨tag, 13, false, []⟩ (s.reserved tag 13) = .refused .noCommit := by
    have none : (s.reserved tag 13).commit = none := hc
    show takeCancelCommit [] (s.reserved tag 13) = _
    simp only [takeCancelCommit, none]
    rfl
  exact congrArg Host.Outcome.next (State.deliver_refused h (by decide) rule)

/-- CANCEL COMMIT answers the pending COMMIT ahead of itself (R75). -/
theorem exec_cancelCommit_some {k : Commit} (hc : s.commit = some k) (ht : k.tag ≠ tag) :
    exec (.cancelCommit ⟨tag, false, []⟩) s = .next ((s.endCommit k .commitCancelled).answered tag .done []) := by
  have ended : (s.reserved tag 13).endCommit k .commitCancelled = (s.endCommit k .commitCancelled).reserved tag 13 :=
    congrArg (s.setCommit none).setReplies (ReplyQueue.makeReady_reserve_other .commitCancelled _ ht 13)
  have rule : Queued.take ⟨tag, 13, false, []⟩ (s.reserved tag 13) =
      .done ((s.endCommit k .commitCancelled).reserved tag 13) [] := by
    have some : (s.reserved tag 13).commit = some k := hc
    rw [← ended]
    show takeCancelCommit [] (s.reserved tag 13) = _
    simp only [takeCancelCommit, some]
    rfl
  have fresh : (s.endCommit k .commitCancelled).replies.live tag = false :=
    ReplyQueue.live_makeReady_other .commitCancelled _ ht h.fresh
  have delivered := State.deliver_take (code := 13) (body := []) h (by decide)
  rw [rule] at delivered
  exact congrArg Host.Outcome.next (delivered.trans (State.reply_reserve .done [] fresh))

end

/-- Settles O54: COMMIT and CANCEL COMMIT, with a commit pending and with none. -/
theorem commitIsDeferredOrCancelled : Obligations.CommitIsDeferredOrCancelled := by
  rintro s ⟨tag, res, body⟩ (rfl : res = false) h
  refine ⟨fun gate limit hb => ⟨fun hc => exec_commit_deferred h hb (by simp [hc]), exec_commit_pending h hb⟩, ?_⟩
  rintro (rfl : body = [])
  exact ⟨exec_cancelCommit_none h, fun k hc ht => exec_cancelCommit_some h hc ht⟩

end Sys2Proof.Machine
end

section
/-! The requests that only read, taken at once (R68, R98, R128, R129, R149, R159, R170, R173, R185). -/

namespace Sys2Proof.Machine

open BitVec (extractLsb'_append_eq_of_le extractLsb'_append_eq_of_add_le)

/-! ## The words they answer with -/

/-- What READ WATCHES reports of a watch whose parameters are given (R170, R185). -/
theorem Watch.brief_given (st : WatchState) (q : WatchParams) (run : Nat) : ∃ v1 v2 v3,
    Watch.brief ⟨st, some q, run⟩ = [v1, v2, v3] ∧ fld v1 22 2 = st.code ∧
    fld v1 20 2 = subjectKind (some q.subject) ∧ fld v1 14 6 = subjectNumber (some q.subject) ∧
    fld v1 13 1 = q.sense.code ∧ fld v1 0 13 = BitVec.ofNat 13 run ∧ fld v2 0 23 = q.threshold ∧
    fld v3 0 23 = q.release := by
  refine ⟨_, _, _, rfl, ?_⟩
  simp [-Nat.reduceAdd, fld, extractLsb'_append_eq_of_le, extractLsb'_append_eq_of_add_le]

/-- What READ WATCHES reports of a watch without parameters (R170, R184, R185). -/
theorem Watch.brief_absent (st : WatchState) (run : Nat) : ∃ v1,
    Watch.brief ⟨st, none, run⟩ = [v1, 0, 0] ∧ fld v1 22 2 = st.code ∧ fld v1 20 2 = 3 ∧ fld v1 14 6 = 0 ∧
    fld v1 13 1 = 0 ∧ fld v1 0 13 = BitVec.ofNat 13 run := by
  have zero : 0#1 ++ 0#23 = (0 : Payload) := by decide
  refine ⟨st.code ++ 3#2 ++ 0#6 ++ 0#1 ++ BitVec.ofNat 13 run, congrArg (fun w : Payload => [_, w, w]) zero, ?_⟩
  simp [-Nat.reduceAdd, fld, extractLsb'_append_eq_of_le, extractLsb'_append_eq_of_add_le]

/-- The first word of a READ ROUTE reply (R185). -/
theorem routeHead_fields (slot : Slot) (drive : Drive) (hold : Hold) (g : GroupNo) (dirty active : Bool) (n : Nat) :
    let w := routeHead slot drive hold g dirty active n
    fld w 18 6 = slot ∧ w.getLsbD 17 = (drive == .driven) ∧ fld w 15 2 = hold.code ∧ fld w 12 3 = g ∧
    w.getLsbD 11 = dirty ∧ fld w 4 7 = 0 ∧ w.getLsbD 3 = active ∧ fld w 0 3 = BitVec.ofNat 3 n := by
  have driven : drive.code.getLsbD 0 = (drive == .driven) := by cases drive <;> rfl
  simp [-Nat.reduceAdd, -BitVec.getLsbD_eq_getElem, routeHead, fld, bit, driven, BitVec.getLsbD_append,
    extractLsb'_append_eq_of_le, extractLsb'_append_eq_of_add_le]

/-- The record word of a staged contributor (R185). -/
theorem Contrib.word_fields (c : Contrib) : fld c.word 17 7 = c.source ∧ fld c.word 9 8 = c.target ∧
    c.word.getLsbD 8 = (c.polarity == .inverted) ∧ fld c.word 0 8 = 0 := by
  have inverted : c.polarity.code.getLsbD 0 = (c.polarity == .inverted) := by cases c.polarity <;> rfl
  simp [-Nat.reduceAdd, -BitVec.getLsbD_eq_getElem, Contrib.word, fld, inverted, BitVec.getLsbD_append,
    extractLsb'_append_eq_of_le, extractLsb'_append_eq_of_add_le]

/-! ## The requests -/

section
variable {s : State} {tag : Tag} {code : Code} {body : List Payload} (h : s.takesAtOnce tag)
include h

/-- A request that only reads leaves the state as it is but for its own place (R42). -/
theorem State.deliver_read (hc : 1 ≤ code.toNat ∧ code.toNat ≤ 32) {reply : List Payload}
    (hrule : Queued.take ⟨tag, code, false, body⟩ (s.reserved tag code) = .done (s.reserved tag code) reply) :
    s.deliver code ⟨tag, false, body⟩ = s.answered tag .done reply :=
  State.deliver_done (u := s) h hc hrule rfl

/-- READ ROUTE (R68). -/
theorem exec_readRoute {slot : Slot} {active : Bool} (hb : readReadRoute body = some (slot, active)) :
    exec (.readRoute ⟨tag, false, body⟩) s = .next (s.answered tag .done
      (if active then
        routeHead slot (s.active.row slot).drive (s.active.row slot).hold (s.active.row slot).group false true 4
          :: (s.active.row slot).pos.toList.flatMap Position.pair
      else
        routeHead slot (s.staged.row slot).drive (s.staged.row slot).hold (s.staged.row slot).group
            (s.staged.row slot).dirty false (s.staged.row slot).list.length
          :: (s.staged.row slot).list.map Contrib.word)) := by
  cases active <;> exact congrArg Host.Outcome.next (State.deliver_read h (by decide) (checked_some hb))

section
variable {id : RegionNo} {offset count : Nat} (hb : readReadRegion body = some (id, offset, count))
include hb

/-- READ REGION of an UNDEFINED region (R128). -/
theorem exec_readRegion_undefined (hid : s.regions.row id = none) :
    exec (.readRegion ⟨tag, false, body⟩) s = .next (s.answered tag .regionUndefined []) := by
  have rule : takeReadRegion body (s.reserved tag 22) = .refused .regionUndefined := by
    have hid' : (s.reserved tag 22).regions.row id = none := hid
    simp only [takeReadRegion, checked_some hb, hid']
  exact congrArg Host.Outcome.next (State.deliver_refused h (by decide) rule)

variable {q : Region} (hid : s.regions.row id = some q)
include hid

omit h in
/-- READ REGION of a defined region (R128). -/
theorem takeReadRegion_defined : takeReadRegion body s =
    if q.use = .capturing then .refused .regionBusy
    else if q.valid < offset + count then .refused .outOfRegion
    else .done s (body ++ (List.range count).map fun i => s.word (q.logical (offset + i))) := by
  simp only [takeReadRegion, checked_some hb, hid]

/-- READ REGION of a CAPTURING region (R128). -/
theorem exec_readRegion_busy (hu : q.use = .capturing) :
    exec (.readRegion ⟨tag, false, body⟩) s = .next (s.answered tag .regionBusy []) :=
  congrArg Host.Outcome.next (State.deliver_refused h (by decide)
    ((takeReadRegion_defined (s := s.reserved tag 22) hb hid).trans (if_pos hu)))

variable (hu : q.use ≠ .capturing)
include hu

/-- READ REGION beyond the valid length (R128). -/
theorem exec_readRegion_beyond (hv : q.valid < offset + count) :
    exec (.readRegion ⟨tag, false, body⟩) s = .next (s.answered tag .outOfRegion []) :=
  congrArg Host.Outcome.next (State.deliver_refused h (by decide)
    ((takeReadRegion_defined (s := s.reserved tag 22) hb hid).trans ((if_neg hu).trans (if_pos hv))))

/-- READ REGION within the valid length (R128). -/
theorem exec_readRegion_done (hv : offset + count ≤ q.valid) :
    exec (.readRegion ⟨tag, false, body⟩) s = .next (s.answered tag .done
      (body ++ (List.range count).map fun i => s.word (q.logical (offset + i)))) :=
  congrArg Host.Outcome.next (State.deliver_read h (by decide)
    ((takeReadRegion_defined (s := s.reserved tag 22) hb hid).trans ((if_neg hu).trans (if_neg (Nat.not_lt.mpr hv)))))

end

end

/-- Settles O48: each reading request by its rule, the words by their layout. -/
theorem readRequestsChangeNothing : Obligations.ReadRequestsChangeNothing := by
  rintro s ⟨tag, res, body⟩ (rfl : res = false) h
  refine ⟨?_, Watch.brief_given, Watch.brief_absent, fun slot active hb => exec_readRoute h hb,
    fun slot drive hold g dirty active n => ?_, Contrib.word_fields, fun id offset count hb =>
    ⟨exec_readRegion_undefined h hb, fun q hq => ⟨exec_readRegion_busy h hb hq, exec_readRegion_beyond h hb hq,
      exec_readRegion_done h hb hq⟩⟩⟩
  · rintro (rfl : body = [])
    exact ⟨congrArg Host.Outcome.next (State.deliver_read (code := 1) h (by decide) rfl),
      congrArg Host.Outcome.next (State.deliver_read (code := 17) h (by decide) rfl),
      congrArg Host.Outcome.next (State.deliver_read (code := 23) h (by decide) rfl),
      congrArg Host.Outcome.next (State.deliver_read (code := 26) h (by decide) rfl),
      congrArg Host.Outcome.next (State.deliver_read (code := 29) h (by decide) rfl),
      congrArg Host.Outcome.next (State.deliver_read (code := 32) h (by decide) rfl)⟩
  · obtain ⟨hslot, hdrive, hhold, hrest⟩ := routeHead_fields slot drive hold g dirty active n
    exact ⟨hslot, hdrive, hhold.trans (by cases hold <;> rfl), hrest⟩

end Sys2Proof.Machine
end

section
/-! The common checks of request bodies: what a body that is read meets, so that every other body is answered BAD_FIELD (R42,
R69, R91, R124, R126, R128, R136, R168, R176, R183 to R185). -/

namespace Sys2Proof.Machine

/-! ## The body of each code is read by its own reader -/

/-- The body of a request of this code passes its common checks. -/
def bodyRead (code : Nat) (body : List Payload) : Bool :=
  match code with
  | 2 | 18 => (readClear body).isSome
  | 3 => (readScope body).isSome
  | 4 => (readMask body).isSome
  | 5 => (readMoveLink body).isSome
  | 6 => (readFormat body).isSome
  | 7 => (readLanes body).isSome
  | 8 => (readStageRoute body).isSome
  | 9 => (readStageClear body).isSome
  | 11 => (readReadRoute body).isSome
  | 12 => (readCommit body).isSome
  | 14 => (readSetGain body).isSome
  | 15 => (readSetGroup body).isSome
  | 16 => (readGroupMute body).isSome
  | 19 => (readDefineRegion body).isSome
  | 20 => (readRegionId body).isSome
  | 21 => (readWriteRegion body).isSome
  | 22 => (readReadRegion body).isSome
  | 24 => (readStartCapture body).isSome
  | 27 => (readStartPlayer body).isSome
  | 28 => (readPlayerNo body).isSome
  | 30 => (readSetWatch body).isSome
  | 31 => (readWatchNo body).isSome
  | _ => (readNone body).isSome

/-- A rule whose fields are not read refuses (R42). -/
theorem checked_unread {α : Type} {fields : Option α} {act : α → Taken} (h : ¬ fields.isSome = true) :
    checked fields act = .refused .badField := by
  rw [Option.not_isSome_iff_eq_none.mp h]
  rfl

/-- A request whose body is not read is refused (R42). -/
theorem Queued.take_unread {q : Queued} (hc : 1 ≤ q.code.toNat ∧ q.code.toNat ≤ 32)
    (h : ¬ bodyRead q.code.toNat q.body = true) (s : State) : q.take s = .refused .badField := by
  unfold Queued.take
  generalize q.code.toNat = n at hc h
  obtain ⟨low, high⟩ := hc
  interval_cases n <;> exact checked_unread h

section
variable {s : State} {code : Code} {r : Req} (h : s.takesAtOnce r.tag) (hc : 1 ≤ code.toNat ∧ code.toNat ≤ 32)
include h hc

/-- A request that fails a common check is answered BAD_FIELD and changes nothing else (R42). -/
theorem State.deliver_badField (ho : ∀ s' : State,
    Queued.outcome ⟨r.tag, code, r.hdrReserved, r.body⟩ s' = .refused .badField) :
    s.deliver code r = s.answered r.tag .badField [] := by
  rw [State.deliver_of_takesAtOnce h hc, ho]
  exact State.complete_refused .badField h.fresh

/-- A request with a reserved header bit set (R42, R184). -/
theorem State.deliver_hdrReserved (hr : r.hdrReserved = true) : s.deliver code r = s.answered r.tag .badField [] :=
  State.deliver_badField h hc fun _ => if_pos hr

/-- A request whose body is not read (R42). -/
theorem State.deliver_unread (hb : ¬ bodyRead code.toNat r.body = true) :
    s.deliver code r = s.answered r.tag .badField [] := by
  refine State.deliver_badField h hc fun s' => ?_
  have unread := Queued.take_unread (q := ⟨r.tag, code, r.hdrReserved, r.body⟩) hc hb s'
  simp only [Queued.outcome, unread, ite_self]

end

/-- What a reader tests first holds of a body that is read. -/
theorem of_isSome_ite {α : Type} {c : Bool} {x : Option α} (h : (if c then x else none).isSome = true) : c = true := by
  cases c with
  | true => rfl
  | false => cases h

/-! ## Lengths -/

/-- A body of no words. -/
theorem eq_nil_of_bodyRead {body : List Payload} : ∀ n ∈ [1, 10, 13, 17, 23, 25, 26, 29, 32],
    bodyRead n body = true → body = [] := by
  have none (h : (readNone body).isSome = true) : body = [] := by
    cases body with
    | nil => rfl
    | cons w ws => cases h
  simp only [List.forall_mem_cons, List.not_mem_nil, false_implies, implies_true, and_true]
  exact ⟨none, none, none, none, none, none, none, none, none⟩

/-- A body of one word. -/
theorem length_of_bodyRead_one {body : List Payload} :
    ∀ n ∈ [2, 3, 4, 5, 6, 7, 9, 11, 12, 14, 15, 16, 18, 20, 22, 27, 28, 31],
      bodyRead n body = true → body.length = 1 := by
  simp only [List.forall_mem_cons, List.not_mem_nil, false_implies, implies_true, and_true]
  match body with
  | [w] => simp only [List.length_singleton, implies_true, and_self]
  | [] => and_intros <;> exact fun h => absurd h Bool.false_ne_true
  | _ :: _ :: _ => and_intros <;> exact fun h => absurd h Bool.false_ne_true

/-- A body of two words. -/
theorem length_of_bodyRead_two {body : List Payload} : ∀ n ∈ [19, 24], bodyRead n body = true → body.length = 2 := by
  simp only [List.forall_mem_cons, List.not_mem_nil, false_implies, implies_true, and_true]
  match body with
  | [v, w] => exact ⟨fun _ => rfl, fun _ => rfl⟩
  | [] | [_] | _ :: _ :: _ :: _ => exact ⟨fun h => absurd h Bool.false_ne_true, fun h => absurd h Bool.false_ne_true⟩

/-- A body of four words. -/
theorem length_of_bodyRead_four {body : List Payload} (h : bodyRead 30 body = true) : body.length = 4 := by
  match body with
  | [_, _, _, _] => rfl
  | [] | [_] | [_, _] | [_, _, _] | _ :: _ :: _ :: _ :: _ :: _ => exact absurd h Bool.false_ne_true

/-! ## Bodies of one word -/

/-- The codes whose body is one word with reserved bits, and the layout of that word (R185). RESET, whose reader compares the
whole word, is not among them. -/
def oneWordLayouts : List (Nat × Payload) :=
  [(2, 0x000001), (4, 0x0000FF), (5, 0x003F3F), (6, 0x00031F), (7, 0x0000FF), (9, 0xFC0001), (11, 0xFC0008),
    (12, 0x01FFFF), (14, 0xFFFF00), (15, 0xFFFC00), (16, 0xE00200), (18, 0x000001), (20, 0xE00000), (22, 0xFFFF3F),
    (27, 0x9C00FF), (28, 0x800000), (31, 0xF00000)]

/-- The body of such a code, once read, is one word (R185). -/
theorem length_of_layout {body : List Payload} : ∀ row ∈ oneWordLayouts, bodyRead row.1 body = true → body.length = 1 :=
  fun row hrow => length_of_bodyRead_one row.1 (by revert row; decide)

/-- The bits outside the layout of such a word are 0 (R184, R185). -/
theorem within_of_layout {w : Payload} : ∀ row ∈ oneWordLayouts, bodyRead row.1 [w] = true → within w row.2 = true := by
  simp only [oneWordLayouts, List.forall_mem_cons, List.not_mem_nil, false_implies, implies_true, and_true]
  exact ⟨of_isSome_ite, of_isSome_ite, of_isSome_ite, fun h => Bool.and_elim_left (of_isSome_ite h), of_isSome_ite,
    of_isSome_ite, of_isSome_ite, of_isSome_ite, of_isSome_ite,
    fun h => Bool.and_elim_left (Bool.and_elim_left (of_isSome_ite h)), of_isSome_ite, of_isSome_ite, of_isSome_ite,
    fun h => Bool.and_elim_left (Bool.and_elim_left (of_isSome_ite h)), of_isSome_ite, of_isSome_ite, of_isSome_ite⟩

section
variable {w : Payload}

/-- RESET: the scope is ROUTING or FULL (R176). -/
theorem readScope_isSome (h : (readScope [w]).isSome = true) : w = 1 ∨ w = 2 := by
  by_contra neither
  obtain ⟨routing, full⟩ := not_or.mp neither
  simp only [readScope, if_neg routing, if_neg full, Option.isSome_none, Bool.false_eq_true] at h

/-- SET FRAME FORMAT: 8 or 16 slots (R184). -/
theorem readFormat_isSome (h : (readFormat [w]).isSome = true) : fld w 0 5 = 8 ∨ fld w 0 5 = 16 := by
  simp only [readFormat, Option.isSome_ite, Bool.and_eq_true, Bool.or_eq_true, beq_iff_eq] at h
  exact h.2

/-- STAGE CLEAR of all slots: the slot field is 0 (R66). -/
theorem readStageClear_isSome (h : (readStageClear [w]).isSome = true) (ha : w.getLsbD 0 = true) : fld w 18 6 = 0 := by
  by_contra slot
  simp only [readStageClear, if_pos ha, if_neg slot, ite_self, Option.isSome_none, Bool.false_eq_true] at h

/-- COMMIT with the gate RAMPS_IDLE: the limit is not 0 (R69). -/
theorem readCommit_isSome (h : (readCommit [w]).isSome = true) (hg : w.getLsbD 16 = true) : fld w 0 16 ≠ 0 := by
  intro zero
  simp only [readCommit, if_pos hg, if_pos zero, ite_self, Option.isSome_none, Bool.false_eq_true] at h

/-- SET GROUP: the step and the interval (R91). -/
theorem readSetGroup_isSome (h : (readSetGroup [w]).isSome = true) :
    (fld w 17 4).toNat ∈ [1, 2, 4, 8] ∧ (fld w 10 7).toNat ≤ 64 := by
  simp only [readSetGroup, Option.isSome_ite, Bool.and_eq_true, Bool.or_eq_true, beq_iff_eq, decide_eq_true_eq] at h
  obtain ⟨⟨-, step⟩, interval⟩ := h
  exact ⟨by simpa only [List.mem_cons, List.not_mem_nil, or_false, or_assoc] using step, interval⟩

/-- READ REGION: the count (R128). -/
theorem readReadRegion_isSome (h : (readReadRegion [w]).isSome = true) :
    1 ≤ (fld w 0 6).toNat ∧ (fld w 0 6).toNat ≤ 47 := by
  simp only [readReadRegion, Option.isSome_ite, Bool.and_eq_true, decide_eq_true_eq] at h
  obtain ⟨⟨-, low⟩, high⟩ := h
  exact ⟨low, high⟩

end

/-! ## Longer bodies -/

/-- A record word that is read (R65, R184, R185). -/
theorem readContrib_isSome {x : Payload} (h : (readContrib x).isSome = true) :
    within x 0xFFFF00 = true ∧ (fld x 17 7).toNat ≤ 65 := by
  simpa only [readContrib, Option.isSome_ite, Bool.and_eq_true, decide_eq_true_eq] using h

/-- Every record word of a list that is read is read. -/
theorem isSome_of_mapM_readContrib {ws : List Payload} (h : (ws.mapM readContrib).isSome = true) :
    ∀ x ∈ ws, (readContrib x).isSome = true := by
  induction ws with
  | nil => simp
  | cons w ws ih =>
    cases hw : readContrib w with
    | none => simp [List.mapM_cons, hw] at h
    | some f =>
      cases hl : ws.mapM readContrib with
      | none => simp [List.mapM_cons, hw, hl] at h
      | some l => exact List.forall_mem_cons.mpr ⟨by rw [hw]; rfl, ih (by rw [hl]; rfl)⟩

/-- STAGE ROUTE (R65, R183 to R185). -/
theorem readStageRoute_isSome {w : Payload} {ws : List Payload} (h : (readStageRoute (w :: ws)).isSome = true) :
    within w 0xFFF007 = true ∧ (fld w 0 3).toNat ≤ 4 ∧ ws.length = (fld w 0 3).toNat ∧ fld w 15 2 ≠ 3 ∧
      ∀ x ∈ ws, within x 0xFFFF00 = true ∧ (fld x 17 7).toNat ≤ 65 := by
  simp only [readStageRoute] at h
  split at h
  next head =>
    split at h
    next hold list hhold hlist =>
      simp only [Bool.and_eq_true, decide_eq_true_eq] at head
      obtain ⟨⟨reserved, bound⟩, length⟩ := head
      refine ⟨reserved, bound, length, ?_, fun x hx => readContrib_isSome
        (isSome_of_mapM_readContrib (by rw [hlist]; rfl) x hx)⟩
      intro refused
      rw [refused] at hhold
      cases hhold
    next => cases h
  next => cases h

/-- DEFINE REGION (R124, R184). -/
theorem readDefineRegion_isSome {w v : Payload} (h : (readDefineRegion [w, v]).isSome = true) :
    within w 0xE01FFF = true ∧ within v 0x003FFF = true ∧ 1 ≤ (fld v 0 14).toNat ∧
      (fld w 0 13).toNat + (fld v 0 14).toNat ≤ 8192 := by
  simpa only [readDefineRegion, Option.isSome_ite, Bool.and_eq_true, decide_eq_true_eq, and_assoc] using h

/-- WRITE REGION (R126, R184). -/
theorem readWriteRegion_isSome {w : Payload} {ws : List Payload} (h : (readWriteRegion (w :: ws)).isSome = true) :
    within w 0xFFFF3F = true ∧ 1 ≤ (fld w 0 6).toNat ∧ (fld w 0 6).toNat ≤ 47 ∧ ws.length = (fld w 0 6).toNat := by
  simpa only [readWriteRegion, Option.isSome_ite, Bool.and_eq_true, decide_eq_true_eq, and_assoc] using h

/-- A subject that is read (R183, R184). -/
theorem readSubject_isSome {kind : BitVec 2} {num : BitVec 6} (h : (readSubject kind num).isSome = true) :
    kind ≠ 3 ∧ (kind = 2 → num.toNat ≤ 1) := by
  refine ⟨?_, ?_⟩
  · rintro rfl
    cases h
  · rintro rfl
    by_contra beyond
    have none : readSubject 2 num = none := if_neg beyond
    rw [none] at h
    cases h

/-- START CAPTURE (R136, R183, R184). -/
theorem readStartCapture_isSome {w v : Payload} (h : (readStartCapture [w, v]).isSome = true) :
    within w 0x1FFFFC = true ∧ within v 0x003FFF = true ∧ (fld v 0 14).toNat ≤ 8192 ∧
      (readSubject (fld w 16 2) (fld w 10 6)).isSome = true ∧ (fld w 8 2 = 0 ∨ fld w 8 2 = 1) ∧
      (fld w 6 2 = 0 ∧ fld w 2 4 = 0 ∨ fld w 6 2 = 1) := by
  simp only [readStartCapture] at h
  split at h
  next head =>
    split at h
    next sub mode trigger hsub hmode htrigger =>
      simp only [Bool.and_eq_true, decide_eq_true_eq, and_assoc] at head
      obtain ⟨reserved0, reserved1, post⟩ := head
      refine ⟨reserved0, reserved1, post, by rw [hsub]; rfl, ?_, ?_⟩
      · by_contra neither
        obtain ⟨once, ring⟩ := not_or.mp neither
        rw [if_neg once, if_neg ring] at hmode
        cases hmode
      · by_cases immediate : fld w 6 2 = 0
        · by_cases unused : fld w 2 4 = 0
          · exact Or.inl ⟨immediate, unused⟩
          · rw [if_pos immediate, if_neg unused] at htrigger
            cases htrigger
        · by_contra neither
          rw [if_neg immediate, if_neg fun watch => neither (Or.inr watch)] at htrigger
          cases htrigger
    next => cases h
  next => cases h

/-- SET WATCH (R168, R183, R184). -/
theorem readSetWatch_isSome {w threshold release last : Payload}
    (h : (readSetWatch [w, threshold, release, last]).isSome = true) :
    within w 0xF3FD00 = true ∧ within threshold 0x7FFFFF = true ∧ within release 0x7FFFFF = true ∧
      within last 0x001FFF = true ∧ 1 ≤ (fld last 0 13).toNat ∧ (fld last 0 13).toNat ≤ 4096 ∧
      (w.getLsbD 8 = false → (fld release 0 23).toNat ≤ (fld threshold 0 23).toNat) ∧
      (w.getLsbD 8 = true → (fld threshold 0 23).toNat ≤ (fld release 0 23).toNat) ∧
      (readSubject (fld w 16 2) (fld w 10 6)).isSome = true := by
  have head := of_isSome_ite h
  simp only [Bool.and_eq_true, decide_eq_true_eq, and_assoc] at head
  obtain ⟨reserved0, reserved1, reserved2, reserved3, low, high, order⟩ := head
  refine ⟨reserved0, reserved1, reserved2, reserved3, low, high, fun above => ?_, fun below => ?_, ?_⟩
  · simpa only [above, Bool.false_eq_true, if_false, decide_eq_true_eq] using order
  · simpa only [below, if_true, decide_eq_true_eq] using order
  · by_contra refused
    rw [Option.not_isSome_iff_eq_none] at refused
    simp only [readSetWatch, refused, ite_self, Option.isSome_none, Bool.false_eq_true] at h

/-! ## Reserved bits -/

/-- The payload bits that the table of R185 leaves reserved, code by code and word by word. -/
def reservedBits : List (Nat × List Payload) :=
  [(2, [0xFFFFFE]), (3, [0xFFFFFC]), (4, [0xFFFF00]), (5, [0xFFC0C0]), (6, [0xFFFCE0]), (7, [0xFFFF00]),
    (8, [0x000FF8, 0x0000FF, 0x0000FF, 0x0000FF, 0x0000FF]), (9, [0x03FFFE]), (11, [0x03FFF7]), (12, [0xFE0000]),
    (14, [0x0000FF]), (15, [0x0003FF]), (16, [0x1FFDFF]), (18, [0xFFFFFE]), (19, [0x1FE000, 0xFFC000]),
    (20, [0x1FFFFF]), (21, [0x0000C0]), (22, [0x0000C0]), (24, [0xE00003, 0xFFC000]), (27, [0x63FF00]),
    (28, [0x7FFFFF]), (30, [0x0C02FF, 0x800000, 0x800000, 0xFFE000]), (31, [0x0FFFFF])]

/-- No word of a body has a bit of the mask at its place. -/
def Clears (body masks : List Payload) : Prop :=
  ∀ (i : Nat) (w m : Payload), body[i]? = some w → masks[i]? = some m → w &&& m = 0

namespace Clears

/-- An empty body has no bit set. -/
theorem nil (masks : List Payload) : Clears [] masks := fun _ _ _ hw => by simp at hw

/-- No mask asks for anything. -/
theorem no_masks (body : List Payload) : Clears body [] := fun _ _ _ _ hm => by simp at hm

/-- Word by word. -/
theorem cons {w m : Payload} {ws ms : List Payload} (hw : w &&& m = 0) (hws : Clears ws ms) :
    Clears (w :: ws) (m :: ms) := by
  rintro (_ | i) v n hv hn
  · cases hv
    cases hn
    exact hw
  · exact hws i v n hv hn

/-- The same mask at every place. -/
theorem of_forall {body : List Payload} {m : Payload} (n : Nat) (h : ∀ w ∈ body, w &&& m = 0) :
    Clears body (List.replicate n m) := fun _ w v hw hv => by
  rw [List.eq_of_mem_replicate (List.mem_of_getElem? hv)]
  exact h w (List.mem_of_getElem? hw)

end Clears

/-- The bits outside a layout are 0 (R184). -/
theorem and_eq_zero_of_within {w m : Payload} (h : within w (~~~m) = true) : w &&& m = 0 := by
  have masked : w &&& ~~~(~~~m) = 0 := beq_iff_eq.mp h
  rwa [BitVec.not_not] at masked

/-- The reserved bits of a body of one word. -/
theorem clears_of_layout {n : Nat} {m : Payload} {body : List Payload} (h : bodyRead n body = true)
    (hlayout : (n, ~~~m) ∈ oneWordLayouts) : Clears body [m] := by
  obtain ⟨w, rfl⟩ := List.length_eq_one_iff.mp (length_of_layout _ hlayout h)
  exact .cons (and_eq_zero_of_within (within_of_layout _ hlayout h)) (.nil _)

/-- RESET. -/
theorem clears_reset {body : List Payload} (h : bodyRead 3 body = true) : Clears body [0xFFFFFC] := by
  obtain ⟨w, rfl⟩ := List.length_eq_one_iff.mp (length_of_bodyRead_one 3 (by decide) h)
  refine .cons ?_ (.nil _)
  obtain rfl | rfl := readScope_isSome h <;> rfl

/-- STAGE ROUTE. -/
theorem clears_stageRoute {body : List Payload} (h : bodyRead 8 body = true) :
    Clears body [0x000FF8, 0x0000FF, 0x0000FF, 0x0000FF, 0x0000FF] := by
  cases body with
  | nil => exact .nil _
  | cons w ws =>
    obtain ⟨head, -, -, -, records⟩ := readStageRoute_isSome h
    exact .cons (and_eq_zero_of_within head) (.of_forall 4 fun x hx => and_eq_zero_of_within (records x hx).1)

/-- DEFINE REGION. -/
theorem clears_defineRegion {body : List Payload} (h : bodyRead 19 body = true) : Clears body [0x1FE000, 0xFFC000] := by
  obtain ⟨w, v, rfl⟩ := List.length_eq_two.mp (length_of_bodyRead_two 19 (by decide) h)
  obtain ⟨hw, hv, -⟩ := readDefineRegion_isSome h
  exact .cons (and_eq_zero_of_within hw) (.cons (and_eq_zero_of_within hv) (.nil _))

/-- WRITE REGION. -/
theorem clears_writeRegion {body : List Payload} (h : bodyRead 21 body = true) : Clears body [0x0000C0] := by
  cases body with
  | nil => exact .nil _
  | cons w ws =>
    obtain ⟨head, -⟩ := readWriteRegion_isSome h
    exact .cons (and_eq_zero_of_within head) (.no_masks ws)

/-- START CAPTURE. -/
theorem clears_startCapture {body : List Payload} (h : bodyRead 24 body = true) : Clears body [0xE00003, 0xFFC000] := by
  obtain ⟨w, v, rfl⟩ := List.length_eq_two.mp (length_of_bodyRead_two 24 (by decide) h)
  obtain ⟨hw, hv, -⟩ := readStartCapture_isSome h
  exact .cons (and_eq_zero_of_within hw) (.cons (and_eq_zero_of_within hv) (.nil _))

/-- SET WATCH. -/
theorem clears_setWatch {body : List Payload} (h : bodyRead 30 body = true) :
    Clears body [0x0C02FF, 0x800000, 0x800000, 0xFFE000] := by
  have length := length_of_bodyRead_four h
  match body with
  | [w, threshold, release, last] =>
    obtain ⟨hw, ht, hr, hl, -⟩ := readSetWatch_isSome h
    exact .cons (and_eq_zero_of_within hw) (.cons (and_eq_zero_of_within ht) (.cons (and_eq_zero_of_within hr)
      (.cons (and_eq_zero_of_within hl) (.nil _))))

/-- The reserved bits of every body that is read are 0 (R184, R185). -/
theorem clears_of_bodyRead {body : List Payload} : ∀ row ∈ reservedBits, bodyRead row.1 body = true →
    Clears body row.2 := by
  have layout {n : Nat} {m : Payload} (hlayout : (n, ~~~m) ∈ oneWordLayouts) (h : bodyRead n body = true) :
      Clears body [m] := clears_of_layout h hlayout
  simp only [reservedBits, List.forall_mem_cons, List.not_mem_nil, false_implies, implies_true, and_true]
  exact ⟨layout (by decide), clears_reset, layout (by decide), layout (by decide), layout (by decide),
    layout (by decide), clears_stageRoute, layout (by decide), layout (by decide), layout (by decide),
    layout (by decide), layout (by decide), layout (by decide), layout (by decide), clears_defineRegion,
    layout (by decide), clears_writeRegion, layout (by decide), clears_startCapture, layout (by decide),
    layout (by decide), clears_setWatch, layout (by decide)⟩

/-! ## Field values -/

/-- Bodies of any length: STAGE ROUTE and WRITE REGION (R65, R126). -/
theorem unread_of_list {n : Nat} {w : Payload} {ws : List Payload}
    (h : (n = 8 ∧ (4 < (fld w 0 3).toNat ∨ ws.length ≠ (fld w 0 3).toNat ∨ fld w 15 2 = 3 ∨
          ∃ x ∈ ws, 66 ≤ (fld x 17 7).toNat)) ∨
      (n = 21 ∧ ((fld w 0 6).toNat = 0 ∨ 48 ≤ (fld w 0 6).toNat ∨ ws.length ≠ (fld w 0 6).toNat))) :
    ¬ bodyRead n (w :: ws) = true := by
  intro read
  obtain ⟨rfl, bad⟩ | ⟨rfl, bad⟩ := h
  · obtain ⟨-, bound, length, hold, records⟩ := readStageRoute_isSome read
    obtain bad | bad | bad | ⟨x, hx, bad⟩ := bad
    · omega
    · exact bad length
    · exact hold bad
    · obtain ⟨-, source⟩ := records x hx
      omega
  · obtain ⟨-, low, high, length⟩ := readWriteRegion_isSome read
    omega

/-- Bodies of one word. -/
theorem unread_of_word {n : Nat} {w : Payload}
    (h : (n = 3 ∧ (fld w 0 2 = 0 ∨ fld w 0 2 = 3)) ∨
      (n = 6 ∧ fld w 0 5 ≠ 8 ∧ fld w 0 5 ≠ 16) ∨
      (n = 9 ∧ w.getLsbD 0 = true ∧ fld w 18 6 ≠ 0) ∨
      (n = 12 ∧ w.getLsbD 16 = true ∧ fld w 0 16 = 0) ∨
      (n = 15 ∧ ((fld w 17 4).toNat ∉ [1, 2, 4, 8] ∨ 64 < (fld w 10 7).toNat)) ∨
      (n = 22 ∧ ((fld w 0 6).toNat = 0 ∨ 48 ≤ (fld w 0 6).toNat))) : ¬ bodyRead n [w] = true := by
  intro read
  obtain ⟨rfl, bad⟩ | ⟨rfl, not8, not16⟩ | ⟨rfl, all, slot⟩ | ⟨rfl, ramps, limit⟩ | ⟨rfl, bad⟩ | ⟨rfl, bad⟩ := h
  · obtain rfl | rfl := readScope_isSome read <;> revert bad <;> decide
  · exact (readFormat_isSome read).elim not8 not16
  · exact slot (readStageClear_isSome read all)
  · exact readCommit_isSome read ramps limit
  · obtain ⟨step, interval⟩ := readSetGroup_isSome read
    exact bad.elim (fun bad => bad step) (fun bad => by omega)
  · obtain ⟨low, high⟩ := readReadRegion_isSome read
    omega

/-- A field of two bits that is 0 or 1. -/
theorem toNat_lt_two {x : BitVec 2} (h : x = 0 ∨ x = 1) : x.toNat < 2 := by
  obtain rfl | rfl := h <;> decide

/-- Bodies of two words: DEFINE REGION and START CAPTURE (R124, R136). -/
theorem unread_of_pair {n : Nat} {w v : Payload}
    (h : (n = 19 ∧ ((fld v 0 14).toNat = 0 ∨ 8192 < (fld w 0 13).toNat + (fld v 0 14).toNat)) ∨
      (n = 24 ∧ (fld w 16 2 = 3 ∨ (fld w 16 2 = 2 ∧ 2 ≤ (fld w 10 6).toNat) ∨ 2 ≤ (fld w 8 2).toNat ∨
        2 ≤ (fld w 6 2).toNat ∨ (fld w 6 2 = 0 ∧ fld w 2 4 ≠ 0) ∨ 8192 < (fld v 0 14).toNat))) :
    ¬ bodyRead n [w, v] = true := by
  intro read
  obtain ⟨rfl, bad⟩ | ⟨rfl, bad⟩ := h
  · obtain ⟨-, -, low, high⟩ := readDefineRegion_isSome read
    omega
  · obtain ⟨-, -, post, subject, mode, trigger⟩ := readStartCapture_isSome read
    obtain ⟨kind, player⟩ := readSubject_isSome subject
    obtain bad | ⟨hk, bad⟩ | bad | bad | ⟨immediate, watch⟩ | bad := bad
    · exact kind bad
    · have := player hk
      omega
    · have := toNat_lt_two mode
      omega
    · have := toNat_lt_two (trigger.imp_left And.left)
      omega
    · obtain ⟨-, unused⟩ | one := trigger
      · exact watch unused
      · rw [one] at immediate
        cases immediate
    · omega

/-- The body of SET WATCH (R168). -/
theorem unread_of_setWatch {w threshold release last : Payload}
    (h : fld w 16 2 = 3 ∨ (fld w 16 2 = 2 ∧ 2 ≤ (fld w 10 6).toNat) ∨
      (fld last 0 13).toNat = 0 ∨ 4096 < (fld last 0 13).toNat ∨
      (w.getLsbD 8 = false ∧ (fld threshold 0 23).toNat < (fld release 0 23).toNat) ∨
      (w.getLsbD 8 = true ∧ (fld release 0 23).toNat < (fld threshold 0 23).toNat)) :
    ¬ bodyRead 30 [w, threshold, release, last] = true := by
  intro read
  obtain ⟨-, -, -, -, low, high, above, below, subject⟩ := readSetWatch_isSome read
  obtain ⟨kind, player⟩ := readSubject_isSome subject
  obtain bad | ⟨hk, bad⟩ | bad | bad | ⟨sense, bad⟩ | ⟨sense, bad⟩ := h
  · exact kind bad
  · have := player hk
    omega
  · omega
  · omega
  · have := above sense
    omega
  · have := below sense
    omega

/-- Settles O45: a body that fails one of the checks is not read, and what is not read is refused. -/
theorem commonChecksRefuse : Obligations.CommonChecksRefuse := by
  intro s code r h low high
  have refused (unread : ¬ bodyRead code.toNat r.body = true) : s.deliver code r = s.answered r.tag .badField [] :=
    State.deliver_unread h ⟨low, high⟩ unread
  refine ⟨State.deliver_hdrReserved h ⟨low, high⟩,
    fun hn hlen => refused fun read => hlen (eq_nil_of_bodyRead _ hn read),
    fun hn hlen => refused fun read => hlen (length_of_bodyRead_one _ hn read),
    fun hn hlen => refused fun read => hlen (length_of_bodyRead_two _ hn read), fun hn hlen => refused fun read => ?_,
    fun hn hlen => refused fun read => ?_, fun w ws hbody bad => refused ?_, fun w hbody bad => refused ?_,
    fun w v hbody bad => refused ?_, fun w threshold release last hbody hn bad => refused ?_,
    fun row hrow hn i w m hw hm hne => refused fun read => ?_⟩
  · rw [hn] at read
    exact hlen (length_of_bodyRead_four read)
  · rw [hlen] at read
    obtain hn | hn := hn <;> rw [hn] at read <;> cases read
  · rw [hbody]
    exact unread_of_list bad
  · rw [hbody]
    exact unread_of_word bad
  · rw [hbody]
    exact unread_of_pair bad
  · rw [hbody, hn]
    exact unread_of_setWatch bad
  · rw [hn] at read
    exact hne (clears_of_bodyRead row hrow read i w m hw hm)

end Sys2Proof.Machine
end

section
/-! The frame step of a player, its natural end, and the posting of that end (R52, R105, R153, R154, R156, R158). -/

namespace Sys2Proof.Machine

/-! ## Rules of the operations -/

/-- A player's end lowers the users of its region by one, and at 0 the region is READY (R131). -/
theorem Region.release_eq (r : Region) : r.release = { r with use := match r.use with
    | .playing n => if n ≤ 1 then .ready else .playing (n - 1)
    | u => u } := by
  obtain ⟨base, length, valid, oldest, use⟩ := r
  cases use <;> rfl

/-- The sample that a player gives stands in the open frame (R105). -/
theorem State.give_of_frame {s : State} {c : FrameCtx} (hs : s.frame = some c) (p : PlayerNo) (x : Sample) :
    s.give p x = s.setFrame (some { c with given := c.given.put p x }) := by
  rw [State.give, hs]
  rfl

/-- What is noted of a player's end stands in the open frame (R156). -/
theorem State.noteEnd_of_frame {s : State} {c : FrameCtx} (hs : s.frame = some c) (p : PlayerNo)
    (v : Option (RegionNo × BitVec 16)) : s.noteEnd p v = s.setFrame (some { c with ended := c.ended.put p v }) := by
  rw [State.noteEnd, hs]
  rfl

/-- A place replaced twice holds what came last. -/
theorem Table.put_put {k : Nat} {α : Type} (t : Table k α) (i : BitVec k) (a b : α) :
    (Table.put (Table.put t i a) i b) = t.put i b :=
  Table.ext fun j => by
    simp only [Table.row_put]
    split <;> rfl

/-! ## The frame step -/

/-- The state once player `p`, playing region `id`, has ended: IDLE, with one pass more, and its region returned (R156). -/
def State.playerEnded (s : State) (p : PlayerNo) (id : RegionNo) (r : Region) : State :=
  (s.setPlayers (s.players.put p { s.players.row p with
    playing := false, position := 0, loops := 0, passes := satInc (s.players.row p).passes, sample := 0 })).setRegions
      (s.regions.put id (some r.release))

section
variable {s : State} {c : FrameCtx} {p : PlayerNo} (hs : s.frame = some c)
include hs

/-- An IDLE player gives 0 (R153). -/
theorem State.playerStep_idle (hq : (s.players.row p).playing = false) :
    s.playerStep p = (s.setFrame (some { c with given := c.given.put p 0 })).setPlayers
      (s.players.put p { s.players.row p with sample := 0 }) := by
  simp only [State.playerStep, hq, Bool.false_eq_true, if_false, State.give_of_frame hs]
  rfl

variable {id : RegionNo} {r : Region}

omit hs in
/-- A player's record replaced and its region returned (R131). -/
theorem State.returnRegion_putPlayer (q : Player) {region : Option RegionNo} (hid : region = some id)
    (hr : s.regions.row id = some r) : (s.putPlayer p q).returnRegion region =
      (s.setPlayers (s.players.put p q)).setRegions (s.regions.put id (some r.release)) := by
  simp only [hid, State.returnRegion, State.putPlayer, State.setPlayers_regions, hr]
  rfl

/-- A natural end (R156). -/
theorem State.naturalEnd_eq (hid : (s.players.row p).region = some id) (hr : s.regions.row id = some r) :
    s.naturalEnd p = (s.playerEnded p id r).setFrame (some { c with
      ended := c.ended.put p (some (id, satInc (s.players.row p).passes)) }) := by
  have number : (s.players.row p).region.getD 0 = id := by rw [hid]; rfl
  have frame : (s.playerEnded p id r).frame = some c := hs
  rw [← State.noteEnd_of_frame frame, State.playerEnded, ← State.returnRegion_putPlayer _ hid hr]
  simp only [State.naturalEnd, number]

variable (hq : (s.players.row p).playing = true) (hid : (s.players.row p).region = some id)
  (hr : s.regions.row id = some r)
include hq hid hr

omit hs in
/-- A PLAYING player gives the sample at its position, and moves on or ends (R153, R154, R156). -/
theorem State.playerStep_playing : s.playerStep p =
    let x := s.word (r.logical (s.players.row p).position)
    if (s.players.row p).ends r.valid then (s.give p x).naturalEnd p
    else (s.give p x).putPlayer p ((s.players.row p).advance r.valid x) := by
  have region : s.playerRegion p = some r := by simp only [State.playerRegion, hid, hr]
  simp only [State.playerStep, hq, if_true, region]

/-- A frame step that does not end the player (R154). -/
theorem State.playerStep_advance (he : (s.players.row p).ends r.valid = false) : s.playerStep p =
    let x := s.word (r.logical (s.players.row p).position)
    (s.setFrame (some { c with given := c.given.put p x })).setPlayers
      (s.players.put p ((s.players.row p).advance r.valid x)) := by
  simp only [State.playerStep_playing hq hid hr, he, Bool.false_eq_true, if_false, State.give_of_frame hs]
  rfl

/-- A frame step within a pass (R154). -/
theorem State.playerStep_within (hv : (s.players.row p).position + 1 < r.valid) : s.playerStep p =
    let x := s.word (r.logical (s.players.row p).position)
    (s.setFrame (some { c with given := c.given.put p x })).setPlayers
      (s.players.put p { s.players.row p with position := (s.players.row p).position + 1, sample := x }) := by
  have goes : (s.players.row p).ends r.valid = false := by
    simp only [Player.ends, decide_eq_false (Nat.not_le.mpr hv), Bool.and_false, Bool.false_and]
  simp only [State.playerStep_advance hs hq hid hr goes, Player.advance, if_pos hv]

/-- A frame step at the end of a pass, with passes left (R154). -/
theorem State.playerStep_pass (hv : (s.players.row p).position + 1 = r.valid) (hl : (s.players.row p).loops ≠ 1) :
    s.playerStep p =
      let x := s.word (r.logical (s.players.row p).position)
      (s.setFrame (some { c with given := c.given.put p x })).setPlayers
        (s.players.put p { s.players.row p with
          position := 0, sample := x, passes := satInc (s.players.row p).passes
          loops := if (s.players.row p).loops = 0 then 0 else (s.players.row p).loops - 1 }) := by
  have goes : (s.players.row p).ends r.valid = false := by
    simp only [Player.ends, beq_false_of_ne hl, Bool.and_false]
  simp only [State.playerStep_advance hs hq hid hr goes, Player.advance, if_neg (Nat.not_lt.mpr hv.ge)]

omit hs hid hr in
/-- The last sample of the last pass (R156). -/
theorem Player.ends_of_last (hv : (s.players.row p).position + 1 = r.valid) (hl : (s.players.row p).loops = 1) :
    (s.players.row p).ends r.valid = true := by
  simp only [Player.ends, hq, hl, hv, Nat.le_refl, decide_true, Bool.and_self, beq_self_eq_true]

/-- The frame step at the last sample of the last pass: it is given, and the player ends (R156). -/
theorem State.playerStep_ends (hv : (s.players.row p).position + 1 = r.valid) (hl : (s.players.row p).loops = 1) :
    s.playerStep p = (s.playerEnded p id r).setFrame (some { c with
      given := c.given.put p (s.word (r.logical (s.players.row p).position))
      ended := c.ended.put p (some (id, satInc (s.players.row p).passes)) }) := by
  simp only [State.playerStep_playing hq hid hr, Player.ends_of_last hq hv hl, if_true, State.give_of_frame hs]
  generalize s.word (r.logical (s.players.row p).position) = x
  exact State.naturalEnd_eq (s := s.setFrame (some { c with given := c.given.put p x })) rfl hid hr

end

/-! ## The posting of a natural end -/

section
variable {s : State} {c d : FrameCtx} {p : PlayerNo} (hs : s.frame = some d)
include hs

/-- A natural end that was noted is posted and no longer stands noted (R156). -/
theorem State.postEnd_noted {id : RegionNo} {passes : BitVec 16} (hc : c.ended.row p = some (id, passes)) :
    s.postEnd c p = (s.post (.playerDone p s.now id passes)).setFrame
      (some { d with ended := d.ended.put p none }) := by
  simp only [State.postEnd, hc, State.noteEnd_of_frame hs]
  rfl

end

/-- With no natural end noted nothing is posted (R156). -/
theorem State.postEnd_none {s : State} {c : FrameCtx} {p : PlayerNo} (hc : c.ended.row p = none) : s.postEnd c p = s := by
  simp only [State.postEnd, hc]

/-- The Notice Queue once a natural end that was noted has been posted at frame `f` (R156). -/
def NoticeSide.postEnd (n : NoticeSide) (c : FrameCtx) (f : FrameNo) (p : PlayerNo) : NoticeSide :=
  match c.ended.row p with
  | none => n
  | some (id, passes) => n.post (.playerDone p f id passes)

/-- The posting of a natural end leaves everything but the Notice Queue and the record of the frame (R156). -/
theorem State.postEnd_eq {s : State} {c d : FrameCtx} {p : PlayerNo} (hs : s.frame = some d)
    (hd : d.ended.row p = c.ended.row p) : s.postEnd c p =
      (s.setNotices (s.notices.postEnd c s.now p)).setFrame (some { d with ended := d.ended.put p none }) := by
  cases hc : c.ended.row p with
  | none =>
    have same : d.ended.put p none = d.ended := by rw [← hc, ← hd, Table.put_row]
    have frame : s.setFrame (some d) = s := by rw [← hs]; rfl
    simp only [State.postEnd_none hc, NoticeSide.postEnd, hc, same]
    exact frame.symm
  | some e =>
    rw [State.postEnd_noted hs hc, NoticeSide.postEnd, hc]
    rfl

/-- The natural ends of the open frame posted, player 0 first (R158, assumption 29). -/
theorem State.postEnds_eq {s : State} {c : FrameCtx} (hs : s.frame = some c) : s.postEnds = { s with
    frame := some { c with ended := (c.ended.put 0 none).put 1 none }
    notices := (s.notices.postEnd c s.now 0).postEnd c s.now 1 } := by
  rw [State.postEnds_of_some hs, State.postEnd_eq hs rfl, State.postEnd_eq rfl (Table.row_put c.ended 0 1 none)]
  rfl

/-! ## PLAYER_NATURAL_END -/

/-- What must precede the posting of a natural end is the player's frame step, or precedes that step too (R12, R156). -/
theorem Phase.mustPrecede_playerNotice {q : Phase} {p : PlayerNo} (h : q.mustPrecede (.playerNotice p) = true) :
    q = .player p ∨ q.mustPrecede (.player p) = true := by
  cases q with
  | player a => exact .inl (congrArg Phase.player (beq_iff_eq.mp h))
  | entryNotice | entryParser => exact .inr rfl
  | _ => cases h

/-- Once the frame step has been taken nothing is left that must precede the posting. -/
theorem State.atPhase.playerNotice {s u : State} {c d : FrameCtx} {p : PlayerNo} (h : s.atPhase c (.player p))
    (hn : Phase.playerNotice p ∈ c.todo) (hdup : c.todo.Nodup) (hu : u.frame = some d)
    (hd : d.todo = c.todo.erase (.player p)) : u.atPhase d (.playerNotice p) := by
  obtain ⟨-, -, ready⟩ := h
  refine ⟨hu, ?_, fun q hq => ?_⟩
  · rw [hd]
    exact (List.mem_erase_of_ne (by simp)).mpr hn
  · rw [hd, hdup.mem_erase_iff] at hq
    obtain ⟨other, left⟩ := hq
    by_contra precedes
    obtain same | earlier := Phase.mustPrecede_playerNotice (Bool.not_eq_false _ ▸ precedes)
    · exact other same
    · rw [ready q left] at earlier
      cases earlier

/-- A posting does not look at the open frame's record. -/
theorem State.post_setFrame (s : State) (f : Option FrameCtx) (v : NoticeVal) :
    (s.setFrame f).post v = (s.post v).setFrame f := rfl

/-- Nor does a player's end. -/
theorem State.playerEnded_setFrame (s : State) (f : Option FrameCtx) (p : PlayerNo) (id : RegionNo) (r : Region) :
    (s.setFrame f).playerEnded p id r = (s.playerEnded p id r).setFrame f := rfl

section
variable {s : State} {c : FrameCtx} {p : PlayerNo} {id : RegionNo} {r : Region} (hq : (s.players.row p).playing = true)
  (hid : (s.players.row p).region = some id) (hr : s.regions.row id = some r)
  (hv : (s.players.row p).position + 1 = r.valid) (hl : (s.players.row p).loops = 1) (h : s.atPhase c (.player p))
include hq hid hr hv hl h

/-- The frame step of PLAYER_NATURAL_END, with the posting still to come (R156). -/
theorem State.takeDue_player (hn : Phase.playerNotice p ∈ c.todo) : s.takeDue (.player p) (endDue p) =
    (s.playerEnded p id r).setFrame (some { c with
      given := c.given.put p (s.word (r.logical (s.players.row p).position))
      ended := c.ended.put p (some (id, satInc (s.players.row p).passes))
      todo := c.todo.erase (.player p) }) := by
  obtain ⟨hs, hp, ready⟩ := h
  have due : endDue p s c = true := by
    have region : s.playerRegion p = some r := by simp only [State.playerRegion, hid, hr]
    simp only [endDue, region, Option.any_some, Player.ends_of_last hq hv hl]
  have left : Phase.playerNotice p ∈ c.todo.erase (.player p) := (List.mem_erase_of_ne (by simp)).mpr hn
  have step := State.playerStep_ends (s := s.took c (.player p)) (c := { c with todo := c.todo.erase (.player p) })
    rfl hq hid hr hv hl
  have taken : (s.took c (.player p)).runPhase (.player p) = (s.took c (.player p)).playerStep p := rfl
  rw [State.takeDue_of_ready hs hp ready due]
  refine (congrArg State.closeEvent (taken.trans step)).trans ?_
  rw [State.closeEvent_eq (State.setFrame_frame _ _), FrameCtx.left_of_mem (p := .playerNotice p) left]
  simp only [State.took, State.playerEnded_setFrame, State.setFrame_setFrame]
  rfl

/-- PLAYER_NATURAL_END: the frame step that ends the player, and its posting (R156). -/
theorem exec_playerNaturalEnd (hn : Phase.playerNotice p ∈ c.todo) (hdup : c.todo.Nodup) :
    exec (.playerNaturalEnd p) s = .next
      (((s.playerEnded p id r).post (.playerDone p s.now id (satInc (s.players.row p).passes))).setFrame (some { c with
        given := c.given.put p (s.word (r.logical (s.players.row p).position)), ended := c.ended.put p none
        todo := (c.todo.erase (.player p)).erase (.playerNotice p) })).closeEvent := by
  have first := State.takeDue_player hq hid hr hv hl h hn
  generalize s.word (r.logical (s.players.row p).position) = x at first ⊢
  generalize hd : ({ c with
    given := c.given.put p x, ended := c.ended.put p (some (id, satInc (s.players.row p).passes))
    todo := c.todo.erase (.player p) } : FrameCtx) = d at first
  have noted : d.ended.row p = some (id, satInc (s.players.row p).passes) := by
    rw [← hd]
    exact (Table.row_put ..).trans (if_pos rfl)
  obtain ⟨hu, hp, ready⟩ := h.playerNotice hn hdup (u := (s.playerEnded p id r).setFrame (some d)) rfl (by rw [← hd])
  have second := State.takeDue_of_ready (due := endedDue p) hu hp ready (by rw [endedDue, noted]; rfl)
  have posted := State.postEnd_noted (s := ((s.playerEnded p id r).setFrame (some d)).took d (.playerNotice p))
    (d := { d with todo := d.todo.erase (.playerNotice p) }) (c := { d with todo := d.todo.erase (.playerNotice p) })
    rfl noted
  have both : (s.takeDue (.player p) (endDue p)).takeDue (.playerNotice p) (endedDue p) = _ :=
    (congrArg (State.takeDue · (.playerNotice p) (endedDue p)) first).trans
      (second.trans (congrArg State.closeEvent posted))
  refine (congrArg Host.Outcome.next both).trans ?_
  subst hd
  simp only [Table.put_put, State.took, State.setFrame_setFrame, State.post_setFrame]
  rfl

end

/-- Settles O41: the frame step in each case, PLAYER_NATURAL_END, the postings, and their place among the parts. -/
theorem playerFrameStep : Obligations.PlayerFrameStep := by
  intro s c p id r hs q x given
  have notice : s.runPhase (.playerNotice p) = s.postEnd c p := by simp only [State.runPhase, hs]
  refine ⟨State.playerStep_idle hs, fun hq hid hr hv => State.playerStep_within hs hq hid hr hv,
    fun hq hid hr hv hl => State.playerStep_pass hs hq hid hr hv hl, ?_,
    fun passes hc => notice.trans (State.postEnd_noted hs hc), fun hc => notice.trans (State.postEnd_none hc),
    ⟨_, State.postEnds_eq hs, fun p => ?_⟩, beq_self_eq_true p, ?_⟩
  · intro hq hid hr hv hl ended
    have same : ended = s.playerEnded p id r := congrArg
      (fun released => (s.setPlayers (s.players.put p { q with
        playing := false, position := 0, loops := 0, passes := satInc q.passes, sample := 0 })).setRegions
          (s.regions.put id (some released))) r.release_eq.symm
    rw [same]
    exact ⟨State.playerStep_ends hs hq hid hr hv hl, exec_playerNaturalEnd hq hid hr hv hl⟩
  · obtain rfl | rfl : p = 0 ∨ p = 1 := by decide +revert
    all_goals simp [Table.row_put]
  · rintro _ (rfl | ⟨w, rfl⟩ | rfl) <;> exact ⟨rfl, rfl⟩

end Sys2Proof.Machine
end
